-- ==== Sys2Proof/Word.lean ====
section
/-! DEFINITION. The machine's word types (spec/00_scope.md R6, R8): bytes, 16-bit register values, 4-bit
selectors and register numbers, 3-bit port numbers. Everything is unsigned; bit 0 is the least significant. -/

namespace Sys2Proof

/-- A byte: `D`, `T`, a memory cell, an immediate (R8). -/
abbrev Byte := BitVec 8

/-- A 16-bit register value (R6, R10). -/
abbrev Word := BitVec 16

/-- A 4-bit register number or selector: `n`, `P`, `X` (R6, R18). -/
abbrev RegNo := BitVec 4

/-- A port number of the I/O bridge, 0 to 7 (R5, R6). -/
abbrev Port := BitVec 3

/-- A masked 12-bit address as a latch holds it (`ScreenBase`, R21). -/
abbrev Addr12 := BitVec 12

end Sys2Proof
end

