-- ==== Sys2Proof/Machine/Flags.lean ====
section
/-! DEFINITION. The four ALU primitives (spec/40_execute_and_alu.md R85 to R88), each giving the result byte and the
new `DF`. Operands are turned into integers, the exact value is computed, and it is narrowed at the end. -/

namespace Sys2Proof.Machine

/-- R85 `AddC(a, b, cin)`: the sum modulo 256, and 1 iff the exact sum exceeds 255. -/
def addC (a b : Byte) (cin : Bool) : Byte × Bool :=
  let sum := a.toNat + b.toNat + cin.toNat
  (BitVec.ofNat 8 sum, decide (sum > 255))

/-- R86 `SubB(m, s, bin)`, minuend `m`, subtrahend `s`: `diff = m - s - (1 - bin)` modulo 256, and 1 (no borrow) iff
`diff >= 0`. The carry of the chained form (`bin = 0`) is the spec's decision D28 (log entry 18). -/
def subB (m s : Byte) (bin : Bool) : Byte × Bool :=
  let diff : Int := (m.toNat : Int) - (s.toNat : Int) - (1 - (bin.toNat : Int))
  (BitVec.ofInt 8 diff, decide (0 ≤ diff))

/-- R87 `ShrC(d, cin, rotate)`: one place right; bit 7 becomes `cin` when rotating and 0 otherwise; carry out is the
old bit 0. -/
def shrC (d : Byte) (cin rotate : Bool) : Byte × Bool :=
  let shifted := d.toNat / 2
  (BitVec.ofNat 8 (if rotate then shifted + cin.toNat * 128 else shifted), d.getLsbD 0)

/-- R88 `ShlC(d, cin, rotate)`: one place left, bit 8 dropped; bit 0 becomes `cin` when rotating and 0 otherwise;
carry out is the old bit 7. -/
def shlC (d : Byte) (cin rotate : Bool) : Byte × Bool :=
  let shifted := d.toNat * 2 % 256
  (BitVec.ofNat 8 (if rotate then shifted + cin.toNat else shifted), d.getLsbD 7)

end Sys2Proof.Machine
end

