-- ==== Sys2Proof/Machine/Bits.lean ====
section
/-! DEFINITION. Bit fields (spec/00_scope.md R8): the two bytes of a register and the two nibbles of the
`(X, P)` byte. -/

namespace Sys2Proof.Machine

/-- `R[n].lo`, bits 7 to 0 (R8, R10). -/
def loByte (w : Word) : Byte := w.extractLsb' 0 8

/-- `R[n].hi`, bits 15 to 8 (R8, R10). -/
def hiByte (w : Word) : Byte := w.extractLsb' 8 8

/-- The word with its low byte replaced: `(w & 0xFF00) | b` (R8, R120, R262). -/
def withLo (w : Word) (b : Byte) : Word := hiByte w ++ b

/-- The word with its high byte replaced: `(w & 0x00FF) | (b << 8)` (R8, R263). -/
def withHi (w : Word) (b : Byte) : Word := b ++ loByte w

/-- The `(X, P)` byte: bits 7 to 4 hold `X`, bits 3 to 0 hold `P` (R17, R193: `(X << 4) | P`). -/
def packXP (x p : RegNo) : Byte := x ++ p

/-- `v[7:4]`, the `X` of an `(X, P)` byte (R190). -/
def unpackX (v : Byte) : RegNo := v.extractLsb' 4 4

/-- `v[3:0]`, the `P` of an `(X, P)` byte (R190). -/
def unpackP (v : Byte) : RegNo := v.extractLsb' 0 4

end Sys2Proof.Machine
end

