-- ==== Sys2Proof/Config.lean ====
section
/-! DEFINITION. The parameters the spec leaves open (spec/00_scope.md R7; spec/92_eei_decisions.md "Open
parameters, collected"). The plain ones are a record that every state carries, so that a statement about every
state holds for every value of them; the host's keypad answers are a free value with no body. `EXTRA_CYCLES`
(0 for every opcode, R82) is `Sys2Proof.Machine.extraCycles`, and the codes of the phase signals are
`Sys2Proof.Machine.PhaseSignal.code`. -/

namespace Sys2Proof

/-- Which of the two keypads a `KeypadSelect` event or a `KeypadQuery` names (R5: `pad in {1,2}`). -/
inductive Keypad where
  | pad1
  | pad2
  deriving DecidableEq, Repr

/-- The parameters of R7 that are plain data. -/
structure Config where
  /-- `BUDGET_ACTIVE`: the cycle budget loaded on entry to `ActiveDisplay` and at reset, an integer >= 0 (R7, D3). -/
  budgetActive : Nat
  /-- `BUDGET_PRELIM`: the cycle budget loaded on entry to `InterruptPreliminary`, an integer >= 0 (R7, D3). -/
  budgetPrelim : Nat
  /-- `EF2_LEVEL`: what `ExtFlag(2)` returns (R7, R335, D10). -/
  ef2Level : Bool
  deriving DecidableEq, Repr

/-- The suggested defaults of R7: 1876, 29 and flag 2 at 0. PRESUMED (the spec marks the budgets as general
knowledge), unsafe for a claim about runs from `State.reset`: log entry 2. No statement rests on them. -/
def Config.suggested : Config := { budgetActive := 1876, budgetPrelim := 29, ef2Level := false }

/-- `KeypadQuery(pad, KeySel)`, the host's answer to a flag 3 or flag 4 query (R336, U8): "a free input at each
query". The first argument is the number of queries answered before it, so that two queries with the same pad and
`KeySel` need not agree. It has no body: nothing is known of it (log entry 4, safe). -/
opaque Config.keypadQuery : Nat → Keypad → BitVec 4 → Bool

end Sys2Proof
end

