-- ==== Sys2Proof/Machine/State.lean ====
section
/-! DEFINITION. The state of the CORE as plain data (spec/10_state.md R10 to R28), the reasons a step can stop, and
the state after reset. The last six fields are the model's own, not the spec's: the parameters of R7, the outputs
that R26 says the CORE emits and never reads back, and the host's answers to keypad queries. -/

namespace Sys2Proof.Machine

/-- Memory as a list of (address, byte) pairs: addresses strictly rising and below 4096, no entry equal to what an
unlisted address reads as (`Memory.wf`, Machine/Memory.lean). R40: "a flat 4096-byte address space". -/
abbrev Memory := List Host.Cell

/-- The two recurring frame phases (R20). -/
inductive Phase where
  | activeDisplay
  | interruptPreliminary
  deriving DecidableEq, Repr

/-- The value an `execute()` call returns (R319). -/
inductive PhaseSignal where
  | none
  | activeDisplayEnded
  | interruptPreliminaryEnded
  deriving DecidableEq, Repr

/-- The interface actions the CORE emits (R5, R329 to R336). -/
inductive Event where
  /-- `PortOut(p, v)`: R331 (port 0, the Q mirror), R332, R333. -/
  | portOut (port : Port) (data : Byte)
  /-- `PortIn(p)`: R334. -/
  | portIn (port : Port)
  /-- `KeypadSelect(pad)`: R336. -/
  | keypadSelect (pad : Keypad)
  /-- `FrameSync()`: R329. -/
  | frameSync
  deriving DecidableEq, Repr

/-- Reasons a step stops with a fault: there is none. R310: "The machine raises no synchronous exception, ever";
spec/93_implementation_defined.md: "Nothing in the machine is `stuck` or `fault`". Safe: nothing raises it. -/
inductive Fault where
  deriving DecidableEq, Repr

/-- Reasons a step is refused. -/
inductive Refusal where
  /-- Raised by `exec` alone, for an instruction without a meaning; every instruction has one, so nothing raises
  it. Safe. -/
  | notModelled (mnemonic : String)
  deriving DecidableEq, Repr

/-- The state of the CORE. -/
structure State where
  /-- `R[0]` to `R[15]`, 16 bits each (R10). -/
  r : Vector Word 16
  /-- `D`, the 8-bit accumulator (R13). -/
  d : Byte
  /-- `DF`, the carry/borrow flag (R14). -/
  df : Bool
  /-- `Q`, the 1-bit output latch (R15). -/
  q : Bool
  /-- `IE`, the interrupt-enable flag (R16). -/
  ie : Bool
  /-- `T`, the 8-bit save register (R17). -/
  t : Byte
  /-- `X`, the data-pointer selector (R18). -/
  x : RegNo
  /-- `P`, the program-counter selector (R18). -/
  p : RegNo
  /-- `Cycles`, the signed remaining-cycle counter (R19), an exact integer (D5). -/
  cycles : Int
  /-- `Phase` (R20). -/
  phase : Phase
  /-- `ScreenBase`, 12 bits (R21). -/
  screenBase : Addr12
  /-- `ScrollOffset`, 8 bits (R21). -/
  scrollOffset : Byte
  /-- `DisplayEnabled` (R22). -/
  displayEnabled : Bool
  /-- `KeySel`, the 4-bit keypad-select latch (R23). -/
  keySel : BitVec 4
  /-- `MEM` (R24, R40). -/
  mem : Memory
  /-- MODEL'S OWN: the parameters of R7, which no step changes (log entry 2). -/
  config : Config
  /-- MODEL'S OWN: the events emitted so far, oldest first (R26, log entry 5). -/
  trace : List Event
  /-- MODEL'S OWN: what the last `execute()` returned (R26, R319, log entry 5). -/
  signal : PhaseSignal
  /-- MODEL'S OWN: answers the host has supplied for coming keypad queries, next one first; when none is left the
  answer is the free value `Config.keypadQuery` (R336, log entry 4). -/
  keypadAnswers : List Bool
  /-- MODEL'S OWN: how many keypad queries have been made (log entry 4). -/
  keypadQueries : Nat
  deriving DecidableEq, Repr

/-- What `execute` and every meaning answer. -/
abbrev Result := Host.Outcome State Fault Refusal

/-- The state a run starts from (R51): memory `MEM_INIT`, then `reset()` (R28, R350), under the parameters `cfg`. -/
def State.start (cfg : Config) (memInit : Memory) : State :=
  { r := Vector.replicate 16 0#16
    d := 0#8
    df := false
    q := false
    ie := true
    t := 0#8
    x := 0#4
    p := 0#4
    cycles := (cfg.budgetActive : Int)
    phase := .activeDisplay
    screenBase := 0#12
    scrollOffset := 0#8
    displayEnabled := false
    keySel := 0#4
    mem := memInit
    config := cfg
    trace := []
    signal := .none
    keypadAnswers := []
    keypadQueries := 0 }

/-- The machine right after reset (R28, R350), with the suggested parameters (log entry 2) and no cell of memory
listed (log entry 1). -/
def State.reset : State := State.start Config.suggested []

end Sys2Proof.Machine
end

