-- ==== Sys2Proof/Machine/Memory.lean ====
section
/-! DEFINITION. Memory as data (spec/20_memory.md R40 to R43): its canonical form, one read and one write of a cell,
and the address mask. The write guard of R43 is in Machine/Ops.lean. -/

namespace Sys2Proof.Machine

/-- What a cell that nothing has written and no image has filled reads as: the byte of `MEM_INIT` there (R42), which
the spec leaves open (R51, D25). DESIGN CHOICE: 0x00, unsafe for a claim about runs from `State.reset` (log entry 1);
a statement about every state ranges over every content of memory. -/
def Memory.unlisted : Byte := 0#8

/-- The canonical form: addresses strictly rising, all within the 4096 cells, no entry equal to what an unlisted
cell reads as. -/
abbrev Memory.wf (m : Memory) : Prop :=
  m.Pairwise (fun a b => a.1 < b.1) ∧ ∀ c ∈ m, c.1 < 4096 ∧ c.2 ≠ Memory.unlisted

/-- The byte of cell `a`. -/
def Memory.read : Memory → Nat → Byte
  | [], _ => Memory.unlisted
  | c :: rest, a => if c.1 = a then c.2 else Memory.read rest a

/-- Put `v` into cell `a`, keeping the canonical form. -/
def Memory.write : Memory → Nat → Byte → Memory
  | [], a, v => if v = Memory.unlisted then [] else [(a, v)]
  | c :: rest, a, v =>
    if a < c.1 then (if v = Memory.unlisted then c :: rest else (a, v) :: c :: rest)
    else if a = c.1 then (if v = Memory.unlisted then rest else (a, v) :: rest)
    else c :: Memory.write rest a v

/-- R41: `A12(a) = a & 0x0FFF`, "addresses are always masked to 12 bits before access". -/
def a12 (a : Nat) : Nat := a % 4096

/-- R43: the only writable region, cells 0x800 to 0x9FF. -/
def isRam (m : Nat) : Bool := decide (0x800 ≤ m) && decide (m ≤ 0x9FF)

end Sys2Proof.Machine
end

