-- ==== Sys2Proof/Syntax.lean ====
section
/-! DEFINITION. The instruction set: one constructor per row of spec/opcode_table.json (spec/30_encoding.md R66), the
operand bytes as typed fields (R60 to R64), the rows of each register and port family by number, and the assembler
lines of R68 and R69. A constructor is its row's mnemonic in small letters, the underscore dropped. -/

namespace Sys2Proof

/-- The 256 instructions (R66). Format `F0` has no operand, `F1` one operand byte (`t`, a short-branch target low byte,
or `imm`, an immediate), `F2` a 16-bit target (R60, R64). -/
inductive Instr where
  -- formats F1 and F2, first because Lean's runtime numbers constructors with data below 244
  | br (t : Byte)
  | bq (t : Byte)
  | bz (t : Byte)
  | bdf (t : Byte)
  | b1 (t : Byte)
  | b2 (t : Byte)
  | b3 (t : Byte)
  | b4 (t : Byte)
  | skp (t : Byte)
  | bnq (t : Byte)
  | bnz (t : Byte)
  | bnf (t : Byte)
  | bn1 (t : Byte)
  | bn2 (t : Byte)
  | bn3 (t : Byte)
  | bn4 (t : Byte)
  | adci (imm : Byte)
  | sdbi (imm : Byte)
  | smbi (imm : Byte)
  | lbr (target : Word)
  | lbq (target : Word)
  | lbz (target : Word)
  | lbdf (target : Word)
  | lbnq (target : Word)
  | lbnz (target : Word)
  | lbnf (target : Word)
  | ldi (imm : Byte)
  | ori (imm : Byte)
  | ani (imm : Byte)
  | xri (imm : Byte)
  | adi (imm : Byte)
  | sdi (imm : Byte)
  | smi (imm : Byte)
  -- format F0
  | idl | ldn1 | ldn2 | ldn3 | ldn4 | ldn5 | ldn6 | ldn7 | ldn8 | ldn9 | ldnA | ldnB | ldnC | ldnD | ldnE | ldnF
  | inc0 | inc1 | inc2 | inc3 | inc4 | inc5 | inc6 | inc7 | inc8 | inc9 | incA | incB | incC | incD | incE | incF
  | dec0 | dec1 | dec2 | dec3 | dec4 | dec5 | dec6 | dec7 | dec8 | dec9 | decA | decB | decC | decD | decE | decF
  | lda0 | lda1 | lda2 | lda3 | lda4 | lda5 | lda6 | lda7 | lda8 | lda9 | ldaA | ldaB | ldaC | ldaD | ldaE | ldaF
  | str0 | str1 | str2 | str3 | str4 | str5 | str6 | str7 | str8 | str9 | strA | strB | strC | strD | strE | strF
  | irx | out1 | out2 | out3 | out4 | out5 | out6 | out7 | x68 | inp1 | inp2 | inp3 | inp4 | inp5 | inp6 | inp7
  | ret | dis | ldxa | stxd | adc | sdb | shrc | smb | sav | mark | req | seq | shlc
  | glo0 | glo1 | glo2 | glo3 | glo4 | glo5 | glo6 | glo7 | glo8 | glo9 | gloA | gloB | gloC | gloD | gloE | gloF
  | ghi0 | ghi1 | ghi2 | ghi3 | ghi4 | ghi5 | ghi6 | ghi7 | ghi8 | ghi9 | ghiA | ghiB | ghiC | ghiD | ghiE | ghiF
  | plo0 | plo1 | plo2 | plo3 | plo4 | plo5 | plo6 | plo7 | plo8 | plo9 | ploA | ploB | ploC | ploD | ploE | ploF
  | phi0 | phi1 | phi2 | phi3 | phi4 | phi5 | phi6 | phi7 | phi8 | phi9 | phiA | phiB | phiC | phiD | phiE | phiF
  | nop | lsnq | lsnz | lsnf | lskp | lsie | lsq | lsz | lsdf
  | sep0 | sep1 | sep2 | sep3 | sep4 | sep5 | sep6 | sep7 | sep8 | sep9 | sepA | sepB | sepC | sepD | sepE | sepF
  | sex0 | sex1 | sex2 | sex3 | sex4 | sex5 | sex6 | sex7 | sex8 | sex9 | sexA | sexB | sexC | sexD | sexE | sexF
  | ldx | or | and | xor | add | sd | shr | sm | shl
  deriving DecidableEq, Repr

/-- The length in bytes, opcode included: a function of the opcode alone (R61). -/
def Instr.length : Instr → Nat
  | .idl => 1
  | .ldn1 => 1
  | .ldn2 => 1
  | .ldn3 => 1
  | .ldn4 => 1
  | .ldn5 => 1
  | .ldn6 => 1
  | .ldn7 => 1
  | .ldn8 => 1
  | .ldn9 => 1
  | .ldnA => 1
  | .ldnB => 1
  | .ldnC => 1
  | .ldnD => 1
  | .ldnE => 1
  | .ldnF => 1
  | .inc0 => 1
  | .inc1 => 1
  | .inc2 => 1
  | .inc3 => 1
  | .inc4 => 1
  | .inc5 => 1
  | .inc6 => 1
  | .inc7 => 1
  | .inc8 => 1
  | .inc9 => 1
  | .incA => 1
  | .incB => 1
  | .incC => 1
  | .incD => 1
  | .incE => 1
  | .incF => 1
  | .dec0 => 1
  | .dec1 => 1
  | .dec2 => 1
  | .dec3 => 1
  | .dec4 => 1
  | .dec5 => 1
  | .dec6 => 1
  | .dec7 => 1
  | .dec8 => 1
  | .dec9 => 1
  | .decA => 1
  | .decB => 1
  | .decC => 1
  | .decD => 1
  | .decE => 1
  | .decF => 1
  | .br _ => 2
  | .bq _ => 2
  | .bz _ => 2
  | .bdf _ => 2
  | .b1 _ => 2
  | .b2 _ => 2
  | .b3 _ => 2
  | .b4 _ => 2
  | .skp _ => 2
  | .bnq _ => 2
  | .bnz _ => 2
  | .bnf _ => 2
  | .bn1 _ => 2
  | .bn2 _ => 2
  | .bn3 _ => 2
  | .bn4 _ => 2
  | .lda0 => 1
  | .lda1 => 1
  | .lda2 => 1
  | .lda3 => 1
  | .lda4 => 1
  | .lda5 => 1
  | .lda6 => 1
  | .lda7 => 1
  | .lda8 => 1
  | .lda9 => 1
  | .ldaA => 1
  | .ldaB => 1
  | .ldaC => 1
  | .ldaD => 1
  | .ldaE => 1
  | .ldaF => 1
  | .str0 => 1
  | .str1 => 1
  | .str2 => 1
  | .str3 => 1
  | .str4 => 1
  | .str5 => 1
  | .str6 => 1
  | .str7 => 1
  | .str8 => 1
  | .str9 => 1
  | .strA => 1
  | .strB => 1
  | .strC => 1
  | .strD => 1
  | .strE => 1
  | .strF => 1
  | .irx => 1
  | .out1 => 1
  | .out2 => 1
  | .out3 => 1
  | .out4 => 1
  | .out5 => 1
  | .out6 => 1
  | .out7 => 1
  | .x68 => 1
  | .inp1 => 1
  | .inp2 => 1
  | .inp3 => 1
  | .inp4 => 1
  | .inp5 => 1
  | .inp6 => 1
  | .inp7 => 1
  | .ret => 1
  | .dis => 1
  | .ldxa => 1
  | .stxd => 1
  | .adc => 1
  | .sdb => 1
  | .shrc => 1
  | .smb => 1
  | .sav => 1
  | .mark => 1
  | .req => 1
  | .seq => 1
  | .adci _ => 2
  | .sdbi _ => 2
  | .shlc => 1
  | .smbi _ => 2
  | .glo0 => 1
  | .glo1 => 1
  | .glo2 => 1
  | .glo3 => 1
  | .glo4 => 1
  | .glo5 => 1
  | .glo6 => 1
  | .glo7 => 1
  | .glo8 => 1
  | .glo9 => 1
  | .gloA => 1
  | .gloB => 1
  | .gloC => 1
  | .gloD => 1
  | .gloE => 1
  | .gloF => 1
  | .ghi0 => 1
  | .ghi1 => 1
  | .ghi2 => 1
  | .ghi3 => 1
  | .ghi4 => 1
  | .ghi5 => 1
  | .ghi6 => 1
  | .ghi7 => 1
  | .ghi8 => 1
  | .ghi9 => 1
  | .ghiA => 1
  | .ghiB => 1
  | .ghiC => 1
  | .ghiD => 1
  | .ghiE => 1
  | .ghiF => 1
  | .plo0 => 1
  | .plo1 => 1
  | .plo2 => 1
  | .plo3 => 1
  | .plo4 => 1
  | .plo5 => 1
  | .plo6 => 1
  | .plo7 => 1
  | .plo8 => 1
  | .plo9 => 1
  | .ploA => 1
  | .ploB => 1
  | .ploC => 1
  | .ploD => 1
  | .ploE => 1
  | .ploF => 1
  | .phi0 => 1
  | .phi1 => 1
  | .phi2 => 1
  | .phi3 => 1
  | .phi4 => 1
  | .phi5 => 1
  | .phi6 => 1
  | .phi7 => 1
  | .phi8 => 1
  | .phi9 => 1
  | .phiA => 1
  | .phiB => 1
  | .phiC => 1
  | .phiD => 1
  | .phiE => 1
  | .phiF => 1
  | .lbr _ => 3
  | .lbq _ => 3
  | .lbz _ => 3
  | .lbdf _ => 3
  | .nop => 1
  | .lsnq => 1
  | .lsnz => 1
  | .lsnf => 1
  | .lskp => 1
  | .lbnq _ => 3
  | .lbnz _ => 3
  | .lbnf _ => 3
  | .lsie => 1
  | .lsq => 1
  | .lsz => 1
  | .lsdf => 1
  | .sep0 => 1
  | .sep1 => 1
  | .sep2 => 1
  | .sep3 => 1
  | .sep4 => 1
  | .sep5 => 1
  | .sep6 => 1
  | .sep7 => 1
  | .sep8 => 1
  | .sep9 => 1
  | .sepA => 1
  | .sepB => 1
  | .sepC => 1
  | .sepD => 1
  | .sepE => 1
  | .sepF => 1
  | .sex0 => 1
  | .sex1 => 1
  | .sex2 => 1
  | .sex3 => 1
  | .sex4 => 1
  | .sex5 => 1
  | .sex6 => 1
  | .sex7 => 1
  | .sex8 => 1
  | .sex9 => 1
  | .sexA => 1
  | .sexB => 1
  | .sexC => 1
  | .sexD => 1
  | .sexE => 1
  | .sexF => 1
  | .ldx => 1
  | .or => 1
  | .and => 1
  | .xor => 1
  | .add => 1
  | .sd => 1
  | .shr => 1
  | .sm => 1
  | .ldi _ => 2
  | .ori _ => 2
  | .ani _ => 2
  | .xri _ => 2
  | .adi _ => 2
  | .sdi _ => 2
  | .shl => 1
  | .smi _ => 2

/-- The rows of LDN n with their register number (R101). -/
def Instr.ldnRows : List (Instr × RegNo) :=
  [(.ldn1, 1#4), (.ldn2, 2#4), (.ldn3, 3#4), (.ldn4, 4#4), (.ldn5, 5#4), (.ldn6, 6#4), (.ldn7, 7#4), (.ldn8, 8#4),
   (.ldn9, 9#4), (.ldnA, 10#4), (.ldnB, 11#4), (.ldnC, 12#4), (.ldnD, 13#4), (.ldnE, 14#4), (.ldnF, 15#4)]

/-- The rows of INC n with their register number (R102). -/
def Instr.incRows : List (Instr × RegNo) :=
  [(.inc0, 0#4), (.inc1, 1#4), (.inc2, 2#4), (.inc3, 3#4), (.inc4, 4#4), (.inc5, 5#4), (.inc6, 6#4), (.inc7, 7#4),
   (.inc8, 8#4), (.inc9, 9#4), (.incA, 10#4), (.incB, 11#4), (.incC, 12#4), (.incD, 13#4), (.incE, 14#4), (.incF, 15#4)]

/-- The rows of DEC n with their register number (R103). -/
def Instr.decRows : List (Instr × RegNo) :=
  [(.dec0, 0#4), (.dec1, 1#4), (.dec2, 2#4), (.dec3, 3#4), (.dec4, 4#4), (.dec5, 5#4), (.dec6, 6#4), (.dec7, 7#4),
   (.dec8, 8#4), (.dec9, 9#4), (.decA, 10#4), (.decB, 11#4), (.decC, 12#4), (.decD, 13#4), (.decE, 14#4), (.decF, 15#4)]

/-- The rows of LDA n with their register number (R150). -/
def Instr.ldaRows : List (Instr × RegNo) :=
  [(.lda0, 0#4), (.lda1, 1#4), (.lda2, 2#4), (.lda3, 3#4), (.lda4, 4#4), (.lda5, 5#4), (.lda6, 6#4), (.lda7, 7#4),
   (.lda8, 8#4), (.lda9, 9#4), (.ldaA, 10#4), (.ldaB, 11#4), (.ldaC, 12#4), (.ldaD, 13#4), (.ldaE, 14#4), (.ldaF, 15#4)]

/-- The rows of STR n with their register number (R151). -/
def Instr.strRows : List (Instr × RegNo) :=
  [(.str0, 0#4), (.str1, 1#4), (.str2, 2#4), (.str3, 3#4), (.str4, 4#4), (.str5, 5#4), (.str6, 6#4), (.str7, 7#4),
   (.str8, 8#4), (.str9, 9#4), (.strA, 10#4), (.strB, 11#4), (.strC, 12#4), (.strD, 13#4), (.strE, 14#4), (.strF, 15#4)]

/-- The rows of GLO n with their register number (R260). -/
def Instr.gloRows : List (Instr × RegNo) :=
  [(.glo0, 0#4), (.glo1, 1#4), (.glo2, 2#4), (.glo3, 3#4), (.glo4, 4#4), (.glo5, 5#4), (.glo6, 6#4), (.glo7, 7#4),
   (.glo8, 8#4), (.glo9, 9#4), (.gloA, 10#4), (.gloB, 11#4), (.gloC, 12#4), (.gloD, 13#4), (.gloE, 14#4), (.gloF, 15#4)]

/-- The rows of GHI n with their register number (R261). -/
def Instr.ghiRows : List (Instr × RegNo) :=
  [(.ghi0, 0#4), (.ghi1, 1#4), (.ghi2, 2#4), (.ghi3, 3#4), (.ghi4, 4#4), (.ghi5, 5#4), (.ghi6, 6#4), (.ghi7, 7#4),
   (.ghi8, 8#4), (.ghi9, 9#4), (.ghiA, 10#4), (.ghiB, 11#4), (.ghiC, 12#4), (.ghiD, 13#4), (.ghiE, 14#4), (.ghiF, 15#4)]

/-- The rows of PLO n with their register number (R262). -/
def Instr.ploRows : List (Instr × RegNo) :=
  [(.plo0, 0#4), (.plo1, 1#4), (.plo2, 2#4), (.plo3, 3#4), (.plo4, 4#4), (.plo5, 5#4), (.plo6, 6#4), (.plo7, 7#4),
   (.plo8, 8#4), (.plo9, 9#4), (.ploA, 10#4), (.ploB, 11#4), (.ploC, 12#4), (.ploD, 13#4), (.ploE, 14#4), (.ploF, 15#4)]

/-- The rows of PHI n with their register number (R263). -/
def Instr.phiRows : List (Instr × RegNo) :=
  [(.phi0, 0#4), (.phi1, 1#4), (.phi2, 2#4), (.phi3, 3#4), (.phi4, 4#4), (.phi5, 5#4), (.phi6, 6#4), (.phi7, 7#4),
   (.phi8, 8#4), (.phi9, 9#4), (.phiA, 10#4), (.phiB, 11#4), (.phiC, 12#4), (.phiD, 13#4), (.phiE, 14#4), (.phiF, 15#4)]

/-- The rows of SEP n with their register number (R264). -/
def Instr.sepRows : List (Instr × RegNo) :=
  [(.sep0, 0#4), (.sep1, 1#4), (.sep2, 2#4), (.sep3, 3#4), (.sep4, 4#4), (.sep5, 5#4), (.sep6, 6#4), (.sep7, 7#4),
   (.sep8, 8#4), (.sep9, 9#4), (.sepA, 10#4), (.sepB, 11#4), (.sepC, 12#4), (.sepD, 13#4), (.sepE, 14#4), (.sepF, 15#4)]

/-- The rows of SEX n with their register number (R265). -/
def Instr.sexRows : List (Instr × RegNo) :=
  [(.sex0, 0#4), (.sex1, 1#4), (.sex2, 2#4), (.sex3, 3#4), (.sex4, 4#4), (.sex5, 5#4), (.sex6, 6#4), (.sex7, 7#4),
   (.sex8, 8#4), (.sex9, 9#4), (.sexA, 10#4), (.sexB, 11#4), (.sexC, 12#4), (.sexD, 13#4), (.sexE, 14#4), (.sexF, 15#4)]

/-- The rows of OUT p with their port number (R155). -/
def Instr.outRows : List (Instr × Port) :=
  [(.out1, 1#3), (.out2, 2#3), (.out3, 3#3), (.out4, 4#3), (.out5, 5#3), (.out6, 6#3), (.out7, 7#3)]

/-- The rows of INP p with their port number (R157). -/
def Instr.inpRows : List (Instr × Port) :=
  [(.inp1, 1#3), (.inp2, 2#3), (.inp3, 3#3), (.inp4, 4#3), (.inp5, 5#3), (.inp6, 6#3), (.inp7, 7#3)]

/-- Mnemonics with a register operand (R68). -/
inductive RegMnemonic where
  | ldn | inc | dec | lda | str | glo | ghi | plo | phi | sep
  | sex
  deriving DecidableEq, Repr

/-- Mnemonics with a port operand (R68). -/
inductive PortMnemonic where
  | out | inp
  deriving DecidableEq, Repr

/-- Mnemonics with an immediate operand (R68). -/
inductive ImmMnemonic where
  | adci | sdbi | smbi | ldi | ori | ani | xri | adi | sdi | smi
  deriving DecidableEq, Repr

/-- Mnemonics with a short-branch operand (R68) and their aliases NBR, BPZ, BGE, BM, BL (R69). -/
inductive ShortMnemonic where
  | br | bq | bz | bdf | b1 | b2 | b3 | b4 | skp | bnq
  | bnz | bnf | bn1 | bn2 | bn3 | bn4 | nbr | bpz | bge | bm
  | bl
  deriving DecidableEq, Repr

/-- Mnemonics with a long-branch operand (R68). -/
inductive LongMnemonic where
  | lbr | lbq | lbz | lbdf | lbnq | lbnz | lbnf
  deriving DecidableEq, Repr

/-- Mnemonics with no written operand (R68) and the aliases NLBR, RSHR, RSHL (R69). -/
inductive PlainMnemonic where
  | idl | irx | x68 | ret | dis | ldxa | stxd | adc | sdb | shrc
  | smb | sav | mark | req | seq | shlc | nop | lsnq | lsnz | lsnf
  | lskp | lsie | lsq | lsz | lsdf | ldx | or | and | xor | add
  | sd | shr | sm | shl | nlbr | rshr | rshl
  deriving DecidableEq, Repr

/-- One assembler line in the syntax of R68: a mnemonic and its operand as a number. Labels, the mnemonics and the
aliases are the spec's own (R68, R69); nothing normative depends on them. -/
inductive Asm where
  | reg (m : RegMnemonic) (n : Nat)
  | port (m : PortMnemonic) (p : Nat)
  | imm (m : ImmMnemonic) (v : Nat)
  | short (m : ShortMnemonic) (t : Nat)
  | long (m : LongMnemonic) (a : Nat)
  | plain (m : PlainMnemonic)
  deriving DecidableEq, Repr

/-- The instruction a short-branch mnemonic names (R66, R69). -/
def ShortMnemonic.instr : ShortMnemonic → Byte → Instr
  | .br => .br
  | .bq => .bq
  | .bz => .bz
  | .bdf => .bdf
  | .b1 => .b1
  | .b2 => .b2
  | .b3 => .b3
  | .b4 => .b4
  | .skp => .skp
  | .bnq => .bnq
  | .bnz => .bnz
  | .bnf => .bnf
  | .bn1 => .bn1
  | .bn2 => .bn2
  | .bn3 => .bn3
  | .bn4 => .bn4
  | .nbr => .skp
  | .bpz => .bdf
  | .bge => .bdf
  | .bm => .bnf
  | .bl => .bnf

/-- The instruction an immediate mnemonic names (R66). -/
def ImmMnemonic.instr : ImmMnemonic → Byte → Instr
  | .adci => .adci
  | .sdbi => .sdbi
  | .smbi => .smbi
  | .ldi => .ldi
  | .ori => .ori
  | .ani => .ani
  | .xri => .xri
  | .adi => .adi
  | .sdi => .sdi
  | .smi => .smi

/-- The instruction a long-branch mnemonic names (R66). -/
def LongMnemonic.instr : LongMnemonic → Word → Instr
  | .lbr => .lbr
  | .lbq => .lbq
  | .lbz => .lbz
  | .lbdf => .lbdf
  | .lbnq => .lbnq
  | .lbnz => .lbnz
  | .lbnf => .lbnf

/-- The instruction a mnemonic without operand names (R66, R69). -/
def PlainMnemonic.instr : PlainMnemonic → Instr
  | .idl => .idl
  | .irx => .irx
  | .x68 => .x68
  | .ret => .ret
  | .dis => .dis
  | .ldxa => .ldxa
  | .stxd => .stxd
  | .adc => .adc
  | .sdb => .sdb
  | .shrc => .shrc
  | .smb => .smb
  | .sav => .sav
  | .mark => .mark
  | .req => .req
  | .seq => .seq
  | .shlc => .shlc
  | .nop => .nop
  | .lsnq => .lsnq
  | .lsnz => .lsnz
  | .lsnf => .lsnf
  | .lskp => .lskp
  | .lsie => .lsie
  | .lsq => .lsq
  | .lsz => .lsz
  | .lsdf => .lsdf
  | .ldx => .ldx
  | .or => .or
  | .and => .and
  | .xor => .xor
  | .add => .add
  | .sd => .sd
  | .shr => .shr
  | .sm => .sm
  | .shl => .shl
  | .nlbr => .lskp
  | .rshr => .shrc
  | .rshl => .shlc

/-- The rows a register mnemonic names (R66). -/
def RegMnemonic.rows : RegMnemonic → List (Instr × RegNo)
  | .ldn => Instr.ldnRows
  | .inc => Instr.incRows
  | .dec => Instr.decRows
  | .lda => Instr.ldaRows
  | .str => Instr.strRows
  | .glo => Instr.gloRows
  | .ghi => Instr.ghiRows
  | .plo => Instr.ploRows
  | .phi => Instr.phiRows
  | .sep => Instr.sepRows
  | .sex => Instr.sexRows

/-- The rows a port mnemonic names (R66). -/
def PortMnemonic.rows : PortMnemonic → List (Instr × Port)
  | .out => Instr.outRows
  | .inp => Instr.inpRows

/-- The row whose register or port number, read as a number, is `n`. -/
def rowNumbered (rows : List (Instr × BitVec w)) (n : Nat) : Option Instr :=
  (rows.find? (fun q => q.2.toNat == n)).map (fun q => q.1)

/-- The instruction a line assembles to, if its operand is one the encoding admits (R68). -/
def Asm.instr? : Asm → Option Instr
  | .reg m n => rowNumbered m.rows n
  | .port m p => rowNumbered m.rows p
  | .imm m v => if v < 256 then some (m.instr (BitVec.ofNat 8 v)) else none
  | .short m t => if t < 256 then some (m.instr (BitVec.ofNat 8 t)) else none
  | .long m a => if a < 65536 then some (m.instr (BitVec.ofNat 16 a)) else none
  | .plain m => some m.instr

end Sys2Proof
end

