-- ==== Sys2Proof/Machine/Ops.lean ====
section
/-! DEFINITION. The named operations over registers and memory, the cycle charge, interrupt entry and the return from
one. Every read and write of a register or a cell by an instruction goes through these. -/

namespace Sys2Proof.Machine

/-- `R[n]` (R8, R10). -/
def State.reg (s : State) (n : RegNo) : Word := s.r[n.toNat]'(by have := n.isLt; omega)

/-- `R[n] <- v` (R8, R10). -/
def State.setReg (s : State) (n : RegNo) (v : Word) : State :=
  { s with r := s.r.set n.toNat v (by have := n.isLt; omega) }

/-- `pc`, that is `R[P]` (R8, R12). -/
def State.pc (s : State) : Word := s.reg s.p

/-- `pc <- v`, that is `R[P] <- v` (R8, R12). -/
def State.setPc (s : State) (v : Word) : State := s.setReg s.p v

/-- `D <- v` (R13). -/
def State.setD (s : State) (v : Byte) : State := { s with d := v }

/-- `(D, DF) <- res`, the pair an ALU primitive gives (R13, R14). -/
def State.setArith (s : State) (res : Byte × Bool) : State := { s with d := res.1, df := res.2 }

/-- `Q <- v` (R15). -/
def State.setQ (s : State) (v : Bool) : State := { s with q := v }

/-- `IE <- v` (R16). -/
def State.setIE (s : State) (v : Bool) : State := { s with ie := v }

/-- `T <- v` (R17). -/
def State.setT (s : State) (v : Byte) : State := { s with t := v }

/-- `X <- n` (R18). -/
def State.setX (s : State) (n : RegNo) : State := { s with x := n }

/-- `P <- n` (R18). -/
def State.setP (s : State) (n : RegNo) : State := { s with p := n }

/-- `DisplayEnabled <- v` (R22). -/
def State.setDisplay (s : State) (v : Bool) : State := { s with displayEnabled := v }

/-- `KeySel <- v` (R23). -/
def State.setKeySel (s : State) (v : BitVec 4) : State := { s with keySel := v }

/-- Emit one event (R5, R26). -/
def State.emit (s : State) (e : Event) : State := { s with trace := s.trace ++ [e] }

/-- `Cycles <- c` (R19). -/
def State.setCycles (s : State) (c : Int) : State := { s with cycles := c }

/-- Enter phase `ph` with budget `budget` and return signal `sig` (R313, R314: the budget is assigned, not added). -/
def State.enterPhase (s : State) (ph : Phase) (budget : Nat) (sig : PhaseSignal) : State :=
  { s with phase := ph, cycles := (budget : Int), signal := sig }

/-- The phase signal this `execute()` returns (R319). -/
def State.setSignal (s : State) (sig : PhaseSignal) : State := { s with signal := sig }

/-- Write the screen-window latches (R21). -/
def State.setWindow (s : State) (base : Addr12) (scroll : Byte) : State :=
  { s with screenBase := base, scrollOffset := scroll }

/-- R42 `MemRead(a, 1)`: the byte of cell `A12(a)`; always defined, changes nothing. -/
def State.memRead (s : State) (a : Word) : Byte := s.mem.read (a12 a.toNat)

/-- R43 `MemWrite(a, 1, v)`: writes cell `A12(a)` if it is in 0x800 to 0x9FF; elsewhere the write is discarded. -/
def State.memWrite (s : State) (a : Word) (v : Byte) : State :=
  if isRam (a12 a.toNat) then { s with mem := s.mem.write (a12 a.toNat) v } else s

/-- R82 `EXTRA_CYCLES(op)`: 0 for every instruction (D2, log entry 6). -/
def extraCycles (_ : Instr) : Nat := 0

/-- R82: `Cycles <- Cycles - (2 + EXTRA_CYCLES(op))`. -/
def State.charge (s : State) (i : Instr) : State := s.setCycles (s.cycles - (2 + (extraCycles i : Int)))

/-- R316 `Interrupt()`, interrupt entry, the one exception of the machine: if `IE = 1`, `T` saves `(X, P)`, `P` becomes
1, `X` becomes 2 and `IE` is cleared; if `IE = 0` nothing happens. Nothing is pushed, no cycle is charged, and control
goes on at the address `R[1]` holds. The saving into `T`, the format and the gate are the spec's decision D19
(log entry 14). -/
def State.interrupt (s : State) : State :=
  if s.ie then { s with t := packXP s.x s.p, p := 1#4, x := 2#4, ie := false } else s

/-- R190, R191: the return from an interrupt. `(X, P)` come from the byte `R[2]` addresses, `R[2]` advances, and `IE`
becomes 1 (RET) or 0 (DIS). That the pointer is `R[2]` whatever `X` is follows the document (D20, log entry 13). -/
def State.returnFrom (s : State) (enable : Bool) : State :=
  let v := s.memRead (s.reg 2#4)
  (((s.setReg 2#4 (s.reg 2#4 + 1#16)).setX (unpackX v)).setP (unpackP v)).setIE enable

end Sys2Proof.Machine
end

