-- ==== Sys2Proof/Machine/Operands.lean ====
section
/-! DEFINITION. Operand forms: the byte `R[X]` addresses, operand bytes taken from the instruction stream, and the
conditions of branches and skips. -/

namespace Sys2Proof.Machine

/-- `R[X]`, the data pointer (R11). -/
def State.dataPtr (s : State) : Word := s.reg s.x

/-- `M`, the byte `R[X]` addresses (spec/45_alu.md, template). -/
def State.dataByte (s : State) : Byte := s.memRead s.dataPtr

/-- Step the data pointer: `R[X] <- v` (R152 to R155). -/
def State.setDataPtr (s : State) (v : Word) : State := s.setReg s.x v

/-- The advance of one operand `Fetch8()` (R81): `R[P] <- (R[P] + 1) mod 65536`. The byte itself was read by the
decoder and is the instruction's operand (log entry 9). -/
def State.operandFetched (s : State) : State := s.setPc (s.pc + 1#16)

/-- The condition `D = 0` (R123, R280). -/
def State.dIsZero (s : State) : Bool := s.d == 0#8

end Sys2Proof.Machine
end

