-- ==== Sys2Proof/Machine/Alu.lean ====
section
/-! DEFINITION. Load via X, logic, add, subtract, shift, and their immediate forms (spec/45_alu.md R210 to R233). -/

namespace Sys2Proof.Machine

/-! Each meaning is one line over the primitives of Machine/Flags.lean (R85 to R88). The operand of a via-pointer form is
`M = MemRead(R[X], 1)`; an immediate form first takes its operand byte (R62), so `R[P]` moves past it. Which opcode
value is which operation is the spec's decisions D15 to D17 (log entry 19). -/

/-- LDX, `0xF0` (R210). -/
def execLdx (s : State) : Result := .next (s.setD s.dataByte)

/-- OR, `0xF1` (R211). -/
def execOr (s : State) : Result := .next (s.setD (s.d ||| s.dataByte))

/-- AND, `0xF2` (R212). -/
def execAnd (s : State) : Result := .next (s.setD (s.d &&& s.dataByte))

/-- XOR, `0xF3` (R213). -/
def execXor (s : State) : Result := .next (s.setD (s.d ^^^ s.dataByte))

/-- ADD, `0xF4` (R214). -/
def execAdd (s : State) : Result := .next (s.setArith (addC s.dataByte s.d false))

/-- ADC, `0x74` (R215). -/
def execAdc (s : State) : Result := .next (s.setArith (addC s.dataByte s.d s.df))

/-- SD, `0xF5` (R216). -/
def execSd (s : State) : Result := .next (s.setArith (subB s.dataByte s.d true))

/-- SDB, `0x75` (R217). -/
def execSdb (s : State) : Result := .next (s.setArith (subB s.dataByte s.d s.df))

/-- SM, `0xF7` (R218). -/
def execSm (s : State) : Result := .next (s.setArith (subB s.d s.dataByte true))

/-- SMB, `0x77` (R219). -/
def execSmb (s : State) : Result := .next (s.setArith (subB s.d s.dataByte s.df))

/-- SHR, `0xF6` (R220). -/
def execShr (s : State) : Result := .next (s.setArith (shrC s.d false false))

/-- SHRC, `0x76` (R221). -/
def execShrc (s : State) : Result := .next (s.setArith (shrC s.d s.df true))

/-- SHL, `0xFE` (R222). -/
def execShl (s : State) : Result := .next (s.setArith (shlC s.d false false))

/-- SHLC, `0x7E` (R223). -/
def execShlc (s : State) : Result := .next (s.setArith (shlC s.d s.df true))

/-- LDI, `0xF8 imm8` (R224). -/
def execLdi (b : Byte) (s : State) : Result := .next (s.operandFetched.setD b)

/-- ORI, `0xF9 imm8` (R225). -/
def execOri (b : Byte) (s : State) : Result := .next (s.operandFetched.setD (s.d ||| b))

/-- ANI, `0xFA imm8` (R226). -/
def execAni (b : Byte) (s : State) : Result := .next (s.operandFetched.setD (s.d &&& b))

/-- XRI, `0xFB imm8` (R227). -/
def execXri (b : Byte) (s : State) : Result := .next (s.operandFetched.setD (s.d ^^^ b))

/-- ADI, `0xFC imm8` (R228). -/
def execAdi (b : Byte) (s : State) : Result := .next (s.operandFetched.setArith (addC b s.d false))

/-- ADCI, `0x7C imm8` (R229). -/
def execAdci (b : Byte) (s : State) : Result := .next (s.operandFetched.setArith (addC b s.d s.df))

/-- SDI, `0xFD imm8` (R230). -/
def execSdi (b : Byte) (s : State) : Result := .next (s.operandFetched.setArith (subB b s.d true))

/-- SDBI, `0x7D imm8` (R231). -/
def execSdbi (b : Byte) (s : State) : Result := .next (s.operandFetched.setArith (subB b s.d s.df))

/-- SMI, `0xFF imm8` (R232). -/
def execSmi (b : Byte) (s : State) : Result := .next (s.operandFetched.setArith (subB s.d b true))

/-- SMBI, `0x7F imm8` (R233). -/
def execSmbi (b : Byte) (s : State) : Result := .next (s.operandFetched.setArith (subB s.d b s.df))

end Sys2Proof.Machine
end

