-- ==== Sys2Proof/Machine/LoadIncDec.lean ====
section
/-! DEFINITION. Idle, load via pointer, increment and decrement (spec/41_idle_load_incdec.md R100 to R103). -/

namespace Sys2Proof.Machine

/-- R100: takes back the advance of the opcode fetch, `R[P] <- (R[P] - 1) mod 65536` (D11, log entry 11). -/
def idle (s : State) : State := s.setPc (s.pc - 1#16)

/-- R101: `D <- MemRead(R[n], 1)`. -/
def loadVia (n : RegNo) (s : State) : State := s.setD (s.memRead (s.reg n))

/-- R102: `R[n] <- (R[n] + 1) mod 65536`. -/
def incReg (n : RegNo) (s : State) : State := s.setReg n (s.reg n + 1#16)

/-- R103: `R[n] <- (R[n] - 1) mod 65536`. -/
def decReg (n : RegNo) (s : State) : State := s.setReg n (s.reg n - 1#16)

/-- IDL, `0x00` (R100). -/
def execIdl (s : State) : Result := .next (idle s)

/-- LDN 1, `0x01` (R101). -/
def execLdn1 (s : State) : Result := .next (loadVia 1#4 s)

/-- LDN 2, `0x02` (R101). -/
def execLdn2 (s : State) : Result := .next (loadVia 2#4 s)

/-- LDN 3, `0x03` (R101). -/
def execLdn3 (s : State) : Result := .next (loadVia 3#4 s)

/-- LDN 4, `0x04` (R101). -/
def execLdn4 (s : State) : Result := .next (loadVia 4#4 s)

/-- LDN 5, `0x05` (R101). -/
def execLdn5 (s : State) : Result := .next (loadVia 5#4 s)

/-- LDN 6, `0x06` (R101). -/
def execLdn6 (s : State) : Result := .next (loadVia 6#4 s)

/-- LDN 7, `0x07` (R101). -/
def execLdn7 (s : State) : Result := .next (loadVia 7#4 s)

/-- LDN 8, `0x08` (R101). -/
def execLdn8 (s : State) : Result := .next (loadVia 8#4 s)

/-- LDN 9, `0x09` (R101). -/
def execLdn9 (s : State) : Result := .next (loadVia 9#4 s)

/-- LDN A, `0x0A` (R101). -/
def execLdnA (s : State) : Result := .next (loadVia 10#4 s)

/-- LDN B, `0x0B` (R101). -/
def execLdnB (s : State) : Result := .next (loadVia 11#4 s)

/-- LDN C, `0x0C` (R101). -/
def execLdnC (s : State) : Result := .next (loadVia 12#4 s)

/-- LDN D, `0x0D` (R101). -/
def execLdnD (s : State) : Result := .next (loadVia 13#4 s)

/-- LDN E, `0x0E` (R101). -/
def execLdnE (s : State) : Result := .next (loadVia 14#4 s)

/-- LDN F, `0x0F` (R101). -/
def execLdnF (s : State) : Result := .next (loadVia 15#4 s)

/-- INC 0, `0x10` (R102). -/
def execInc0 (s : State) : Result := .next (incReg 0#4 s)

/-- INC 1, `0x11` (R102). -/
def execInc1 (s : State) : Result := .next (incReg 1#4 s)

/-- INC 2, `0x12` (R102). -/
def execInc2 (s : State) : Result := .next (incReg 2#4 s)

/-- INC 3, `0x13` (R102). -/
def execInc3 (s : State) : Result := .next (incReg 3#4 s)

/-- INC 4, `0x14` (R102). -/
def execInc4 (s : State) : Result := .next (incReg 4#4 s)

/-- INC 5, `0x15` (R102). -/
def execInc5 (s : State) : Result := .next (incReg 5#4 s)

/-- INC 6, `0x16` (R102). -/
def execInc6 (s : State) : Result := .next (incReg 6#4 s)

/-- INC 7, `0x17` (R102). -/
def execInc7 (s : State) : Result := .next (incReg 7#4 s)

/-- INC 8, `0x18` (R102). -/
def execInc8 (s : State) : Result := .next (incReg 8#4 s)

/-- INC 9, `0x19` (R102). -/
def execInc9 (s : State) : Result := .next (incReg 9#4 s)

/-- INC A, `0x1A` (R102). -/
def execIncA (s : State) : Result := .next (incReg 10#4 s)

/-- INC B, `0x1B` (R102). -/
def execIncB (s : State) : Result := .next (incReg 11#4 s)

/-- INC C, `0x1C` (R102). -/
def execIncC (s : State) : Result := .next (incReg 12#4 s)

/-- INC D, `0x1D` (R102). -/
def execIncD (s : State) : Result := .next (incReg 13#4 s)

/-- INC E, `0x1E` (R102). -/
def execIncE (s : State) : Result := .next (incReg 14#4 s)

/-- INC F, `0x1F` (R102). -/
def execIncF (s : State) : Result := .next (incReg 15#4 s)

/-- DEC 0, `0x20` (R103). -/
def execDec0 (s : State) : Result := .next (decReg 0#4 s)

/-- DEC 1, `0x21` (R103). -/
def execDec1 (s : State) : Result := .next (decReg 1#4 s)

/-- DEC 2, `0x22` (R103). -/
def execDec2 (s : State) : Result := .next (decReg 2#4 s)

/-- DEC 3, `0x23` (R103). -/
def execDec3 (s : State) : Result := .next (decReg 3#4 s)

/-- DEC 4, `0x24` (R103). -/
def execDec4 (s : State) : Result := .next (decReg 4#4 s)

/-- DEC 5, `0x25` (R103). -/
def execDec5 (s : State) : Result := .next (decReg 5#4 s)

/-- DEC 6, `0x26` (R103). -/
def execDec6 (s : State) : Result := .next (decReg 6#4 s)

/-- DEC 7, `0x27` (R103). -/
def execDec7 (s : State) : Result := .next (decReg 7#4 s)

/-- DEC 8, `0x28` (R103). -/
def execDec8 (s : State) : Result := .next (decReg 8#4 s)

/-- DEC 9, `0x29` (R103). -/
def execDec9 (s : State) : Result := .next (decReg 9#4 s)

/-- DEC A, `0x2A` (R103). -/
def execDecA (s : State) : Result := .next (decReg 10#4 s)

/-- DEC B, `0x2B` (R103). -/
def execDecB (s : State) : Result := .next (decReg 11#4 s)

/-- DEC C, `0x2C` (R103). -/
def execDecC (s : State) : Result := .next (decReg 12#4 s)

/-- DEC D, `0x2D` (R103). -/
def execDecD (s : State) : Result := .next (decReg 13#4 s)

/-- DEC E, `0x2E` (R103). -/
def execDecE (s : State) : Result := .next (decReg 14#4 s)

/-- DEC F, `0x2F` (R103). -/
def execDecF (s : State) : Result := .next (decReg 15#4 s)

end Sys2Proof.Machine
end

