-- ==== Sys2Proof/Machine/Bridge.lean ====
section
/-! DEFINITION. The I/O Port Bridge at its interface (spec/60_exceptions.md R330 to R337): output ports, input ports
and the four external flags. -/

namespace Sys2Proof.Machine

/-- `PortOut(p, v)`. The event is emitted for every port (R331 to R333); port 1 clears `DisplayEnabled` whatever `v` is
(R332, D23, log entry 16), port 2 latches the low nibble into `KeySel` (R332, D27); ports 0 and 3 to 7 change no
state. -/
def State.portOut (s : State) (p : Port) (v : Byte) : State :=
  if p = 1#3 then (s.emit (.portOut p v)).setDisplay false
  else if p = 2#3 then (s.emit (.portOut p v)).setKeySel (v.extractLsb' 0 4)
  else s.emit (.portOut p v)

/-- `PortIn(p)` (R334): every input port gives 0x00; port 1 also sets `DisplayEnabled`. -/
def State.portIn (s : State) (p : Port) : Byte × State :=
  if p = 1#3 then (0#8, (s.emit (.portIn p)).setDisplay true) else (0#8, s.emit (.portIn p))

/-- The host's answer to the query being made: the next one the host has supplied, else the free value (R336, U8). -/
def State.keypadAnswer (s : State) (pad : Keypad) : Bool :=
  match s.keypadAnswers with
  | b :: _ => b
  | [] => Config.keypadQuery s.keypadQueries pad s.keySel

/-- R336: `KeypadSelect(pad)` is emitted, then the host answers `KeypadQuery(pad, KeySel)`. -/
def State.queryKeypad (s : State) (pad : Keypad) : Bool × State :=
  (s.keypadAnswer pad,
    { s.emit (.keypadSelect pad) with
      keypadAnswers := s.keypadAnswers.tail, keypadQueries := s.keypadQueries + 1 })

/-- `ExtFlag(id)` (R335, R336): flag 1 is hard-wired true, flag 2 is `EF2_LEVEL`, flags 3 and 4 query keypads 1 and 2;
an unsupported id gives 0 (D37; the CPU never issues one). -/
def State.extFlag (s : State) (id : Nat) : Bool × State :=
  match id with
  | 1 => (true, s)
  | 2 => (s.config.ef2Level, s)
  | 3 => s.queryKeypad .pad1
  | 4 => s.queryKeypad .pad2
  | _ => (false, s)

/-- R194, R195, R331: `Q <- v`, and `PortOut(0, v)` if the value changed (D24). -/
def State.latchQ (s : State) (v : Bool) : State :=
  if s.q = v then s.setQ v else (s.setQ v).portOut 0#3 (BitVec.ofNat 8 v.toNat)

end Sys2Proof.Machine
end

