-- ==== Sys2Proof/Machine/LoadStoreIO.lean ====
section
/-! DEFINITION. Load-advance, store, and register-indexed I/O (spec/43_load_advance_store_io.md R150 to R157). -/

namespace Sys2Proof.Machine

/-- R150: `D <- MemRead(R[n], 1)`, then `R[n] <- (R[n] + 1) mod 65536`. -/
def loadAdvance (n : RegNo) (s : State) : State :=
  (s.setD (s.memRead (s.reg n))).setReg n (s.reg n + 1#16)

/-- R151: `MemWrite(R[n], 1, D)`; `R[n]` is not changed (C1). -/
def storeVia (n : RegNo) (s : State) : State := s.memWrite (s.reg n) s.d

/-- R152: `D <- MemRead(R[X], 1)`, then `R[X] <- (R[X] + 1) mod 65536`. -/
def loadXAdvance (s : State) : State := (s.setD s.dataByte).setDataPtr (s.dataPtr + 1#16)

/-- R153: `MemWrite(R[X], 1, D)`, then `R[X] <- (R[X] - 1) mod 65536`, also when the write is discarded. -/
def storeXDecrement (s : State) : State :=
  (s.memWrite s.dataPtr s.d).setDataPtr (s.dataPtr - 1#16)

/-- R154: `R[X] <- (R[X] + 1) mod 65536`. -/
def incX (s : State) : State := s.setDataPtr (s.dataPtr + 1#16)

/-- R155: `PortOut(p, MemRead(R[X], 1))`, then `R[X] <- (R[X] + 1) mod 65536`. -/
def output (p : Port) (s : State) : State :=
  (s.portOut p s.dataByte).setDataPtr (s.dataPtr + 1#16)

/-- R156: nothing (D12, log entry 10). -/
def unassigned68 (s : State) : State := s

/-- R157: `v <- PortIn(p)`, `MemWrite(R[X], 1, v)`, `D <- v`; the last is the spec's decision D13 (log entry 17). -/
def input (p : Port) (s : State) : State :=
  ((s.portIn p).2.memWrite s.dataPtr (s.portIn p).1).setD (s.portIn p).1

/-- LDA 0, `0x40` (R150). -/
def execLda0 (s : State) : Result := .next (loadAdvance 0#4 s)

/-- LDA 1, `0x41` (R150). -/
def execLda1 (s : State) : Result := .next (loadAdvance 1#4 s)

/-- LDA 2, `0x42` (R150). -/
def execLda2 (s : State) : Result := .next (loadAdvance 2#4 s)

/-- LDA 3, `0x43` (R150). -/
def execLda3 (s : State) : Result := .next (loadAdvance 3#4 s)

/-- LDA 4, `0x44` (R150). -/
def execLda4 (s : State) : Result := .next (loadAdvance 4#4 s)

/-- LDA 5, `0x45` (R150). -/
def execLda5 (s : State) : Result := .next (loadAdvance 5#4 s)

/-- LDA 6, `0x46` (R150). -/
def execLda6 (s : State) : Result := .next (loadAdvance 6#4 s)

/-- LDA 7, `0x47` (R150). -/
def execLda7 (s : State) : Result := .next (loadAdvance 7#4 s)

/-- LDA 8, `0x48` (R150). -/
def execLda8 (s : State) : Result := .next (loadAdvance 8#4 s)

/-- LDA 9, `0x49` (R150). -/
def execLda9 (s : State) : Result := .next (loadAdvance 9#4 s)

/-- LDA A, `0x4A` (R150). -/
def execLdaA (s : State) : Result := .next (loadAdvance 10#4 s)

/-- LDA B, `0x4B` (R150). -/
def execLdaB (s : State) : Result := .next (loadAdvance 11#4 s)

/-- LDA C, `0x4C` (R150). -/
def execLdaC (s : State) : Result := .next (loadAdvance 12#4 s)

/-- LDA D, `0x4D` (R150). -/
def execLdaD (s : State) : Result := .next (loadAdvance 13#4 s)

/-- LDA E, `0x4E` (R150). -/
def execLdaE (s : State) : Result := .next (loadAdvance 14#4 s)

/-- LDA F, `0x4F` (R150). -/
def execLdaF (s : State) : Result := .next (loadAdvance 15#4 s)

/-- STR 0, `0x50` (R151). -/
def execStr0 (s : State) : Result := .next (storeVia 0#4 s)

/-- STR 1, `0x51` (R151). -/
def execStr1 (s : State) : Result := .next (storeVia 1#4 s)

/-- STR 2, `0x52` (R151). -/
def execStr2 (s : State) : Result := .next (storeVia 2#4 s)

/-- STR 3, `0x53` (R151). -/
def execStr3 (s : State) : Result := .next (storeVia 3#4 s)

/-- STR 4, `0x54` (R151). -/
def execStr4 (s : State) : Result := .next (storeVia 4#4 s)

/-- STR 5, `0x55` (R151). -/
def execStr5 (s : State) : Result := .next (storeVia 5#4 s)

/-- STR 6, `0x56` (R151). -/
def execStr6 (s : State) : Result := .next (storeVia 6#4 s)

/-- STR 7, `0x57` (R151). -/
def execStr7 (s : State) : Result := .next (storeVia 7#4 s)

/-- STR 8, `0x58` (R151). -/
def execStr8 (s : State) : Result := .next (storeVia 8#4 s)

/-- STR 9, `0x59` (R151). -/
def execStr9 (s : State) : Result := .next (storeVia 9#4 s)

/-- STR A, `0x5A` (R151). -/
def execStrA (s : State) : Result := .next (storeVia 10#4 s)

/-- STR B, `0x5B` (R151). -/
def execStrB (s : State) : Result := .next (storeVia 11#4 s)

/-- STR C, `0x5C` (R151). -/
def execStrC (s : State) : Result := .next (storeVia 12#4 s)

/-- STR D, `0x5D` (R151). -/
def execStrD (s : State) : Result := .next (storeVia 13#4 s)

/-- STR E, `0x5E` (R151). -/
def execStrE (s : State) : Result := .next (storeVia 14#4 s)

/-- STR F, `0x5F` (R151). -/
def execStrF (s : State) : Result := .next (storeVia 15#4 s)

/-- LDXA, `0x72` (R152). -/
def execLdxa (s : State) : Result := .next (loadXAdvance s)

/-- STXD, `0x73` (R153). -/
def execStxd (s : State) : Result := .next (storeXDecrement s)

/-- IRX, `0x60` (R154). -/
def execIrx (s : State) : Result := .next (incX s)

/-- OUT 1, `0x61` (R155). -/
def execOut1 (s : State) : Result := .next (output 1#3 s)

/-- OUT 2, `0x62` (R155). -/
def execOut2 (s : State) : Result := .next (output 2#3 s)

/-- OUT 3, `0x63` (R155). -/
def execOut3 (s : State) : Result := .next (output 3#3 s)

/-- OUT 4, `0x64` (R155). -/
def execOut4 (s : State) : Result := .next (output 4#3 s)

/-- OUT 5, `0x65` (R155). -/
def execOut5 (s : State) : Result := .next (output 5#3 s)

/-- OUT 6, `0x66` (R155). -/
def execOut6 (s : State) : Result := .next (output 6#3 s)

/-- OUT 7, `0x67` (R155). -/
def execOut7 (s : State) : Result := .next (output 7#3 s)

/-- X68, `0x68` (R156). -/
def execX68 (s : State) : Result := .next (unassigned68 s)

/-- INP 1, `0x69` (R157). -/
def execInp1 (s : State) : Result := .next (input 1#3 s)

/-- INP 2, `0x6A` (R157). -/
def execInp2 (s : State) : Result := .next (input 2#3 s)

/-- INP 3, `0x6B` (R157). -/
def execInp3 (s : State) : Result := .next (input 3#3 s)

/-- INP 4, `0x6C` (R157). -/
def execInp4 (s : State) : Result := .next (input 4#3 s)

/-- INP 5, `0x6D` (R157). -/
def execInp5 (s : State) : Result := .next (input 5#3 s)

/-- INP 6, `0x6E` (R157). -/
def execInp6 (s : State) : Result := .next (input 6#3 s)

/-- INP 7, `0x6F` (R157). -/
def execInp7 (s : State) : Result := .next (input 7#3 s)

end Sys2Proof.Machine
end

