-- ==== Sys2Proof/Machine/LongBranch.lean ====
section
/-! DEFINITION. Long branches, long skips and no-op (spec/47_long_branch.md R280 to R297). -/

namespace Sys2Proof.Machine

/-- R281 `LongBranch(cond)`: both operand bytes are always taken; if `cond` holds all 16 bits of `R[P]` are replaced. -/
def longBranch (c : Bool) (target : Word) (s : State) : State :=
  if c then s.operandFetched.operandFetched.setPc target else s.operandFetched.operandFetched

/-- R281 `LongSkip(cond)`: `if cond then R[P] <- (R[P] + 2) mod 65536`; nothing is read (D34). -/
def longSkip (c : Bool) (s : State) : State := if c then s.setPc (s.pc + 2#16) else s

/-- LBR, `0xC0 hi8 lo8` (R282). -/
def execLbr (a : Word) (s : State) : Result := .next (longBranch true a s)

/-- LBQ, `0xC1 hi8 lo8` (R283). -/
def execLbq (a : Word) (s : State) : Result := .next (longBranch s.q a s)

/-- LBZ, `0xC2 hi8 lo8` (R284). -/
def execLbz (a : Word) (s : State) : Result := .next (longBranch s.dIsZero a s)

/-- LBDF, `0xC3 hi8 lo8` (R285). -/
def execLbdf (a : Word) (s : State) : Result := .next (longBranch s.df a s)

/-- NOP, `0xC4` (R286). -/
def execNop (s : State) : Result := .next (longSkip false s)

/-- LSNQ, `0xC5` (R287). -/
def execLsnq (s : State) : Result := .next (longSkip (!s.q) s)

/-- LSNZ, `0xC6` (R288). -/
def execLsnz (s : State) : Result := .next (longSkip (!s.dIsZero) s)

/-- LSNF, `0xC7` (R289). -/
def execLsnf (s : State) : Result := .next (longSkip (!s.df) s)

/-- LSKP, `0xC8` (R290). -/
def execLskp (s : State) : Result := .next (longSkip true s)

/-- LBNQ, `0xC9 hi8 lo8` (R291). -/
def execLbnq (a : Word) (s : State) : Result := .next (longBranch (!s.q) a s)

/-- LBNZ, `0xCA hi8 lo8` (R292). -/
def execLbnz (a : Word) (s : State) : Result := .next (longBranch (!s.dIsZero) a s)

/-- LBNF, `0xCB hi8 lo8` (R293). -/
def execLbnf (a : Word) (s : State) : Result := .next (longBranch (!s.df) a s)

/-- LSIE, `0xCC` (R294). -/
def execLsie (s : State) : Result := .next (longSkip s.ie s)

/-- LSQ, `0xCD` (R295). -/
def execLsq (s : State) : Result := .next (longSkip s.q s)

/-- LSZ, `0xCE` (R296). -/
def execLsz (s : State) : Result := .next (longSkip s.dIsZero s)

/-- LSDF, `0xCF` (R297). -/
def execLsdf (s : State) : Result := .next (longSkip s.df s)

end Sys2Proof.Machine
end

