-- ==== Sys2Proof/Machine/RegBytes.lean ====
section
/-! DEFINITION. Register byte moves and selectors (spec/46_register_bytes_select.md R260 to R265). -/

namespace Sys2Proof.Machine

/-- R260: `D <- R[n].lo`. -/
def getLow (n : RegNo) (s : State) : State := s.setD (loByte (s.reg n))

/-- R261: `D <- R[n].hi`. -/
def getHigh (n : RegNo) (s : State) : State := s.setD (hiByte (s.reg n))

/-- R262: `R[n].lo <- D`. -/
def putLow (n : RegNo) (s : State) : State := s.setReg n (withLo (s.reg n) s.d)

/-- R263: `R[n].hi <- D`. -/
def putHigh (n : RegNo) (s : State) : State := s.setReg n (withHi (s.reg n) s.d)

/-- GLO 0, `0x80` (R260). -/
def execGlo0 (s : State) : Result := .next (getLow 0#4 s)

/-- GLO 1, `0x81` (R260). -/
def execGlo1 (s : State) : Result := .next (getLow 1#4 s)

/-- GLO 2, `0x82` (R260). -/
def execGlo2 (s : State) : Result := .next (getLow 2#4 s)

/-- GLO 3, `0x83` (R260). -/
def execGlo3 (s : State) : Result := .next (getLow 3#4 s)

/-- GLO 4, `0x84` (R260). -/
def execGlo4 (s : State) : Result := .next (getLow 4#4 s)

/-- GLO 5, `0x85` (R260). -/
def execGlo5 (s : State) : Result := .next (getLow 5#4 s)

/-- GLO 6, `0x86` (R260). -/
def execGlo6 (s : State) : Result := .next (getLow 6#4 s)

/-- GLO 7, `0x87` (R260). -/
def execGlo7 (s : State) : Result := .next (getLow 7#4 s)

/-- GLO 8, `0x88` (R260). -/
def execGlo8 (s : State) : Result := .next (getLow 8#4 s)

/-- GLO 9, `0x89` (R260). -/
def execGlo9 (s : State) : Result := .next (getLow 9#4 s)

/-- GLO A, `0x8A` (R260). -/
def execGloA (s : State) : Result := .next (getLow 10#4 s)

/-- GLO B, `0x8B` (R260). -/
def execGloB (s : State) : Result := .next (getLow 11#4 s)

/-- GLO C, `0x8C` (R260). -/
def execGloC (s : State) : Result := .next (getLow 12#4 s)

/-- GLO D, `0x8D` (R260). -/
def execGloD (s : State) : Result := .next (getLow 13#4 s)

/-- GLO E, `0x8E` (R260). -/
def execGloE (s : State) : Result := .next (getLow 14#4 s)

/-- GLO F, `0x8F` (R260). -/
def execGloF (s : State) : Result := .next (getLow 15#4 s)

/-- GHI 0, `0x90` (R261). -/
def execGhi0 (s : State) : Result := .next (getHigh 0#4 s)

/-- GHI 1, `0x91` (R261). -/
def execGhi1 (s : State) : Result := .next (getHigh 1#4 s)

/-- GHI 2, `0x92` (R261). -/
def execGhi2 (s : State) : Result := .next (getHigh 2#4 s)

/-- GHI 3, `0x93` (R261). -/
def execGhi3 (s : State) : Result := .next (getHigh 3#4 s)

/-- GHI 4, `0x94` (R261). -/
def execGhi4 (s : State) : Result := .next (getHigh 4#4 s)

/-- GHI 5, `0x95` (R261). -/
def execGhi5 (s : State) : Result := .next (getHigh 5#4 s)

/-- GHI 6, `0x96` (R261). -/
def execGhi6 (s : State) : Result := .next (getHigh 6#4 s)

/-- GHI 7, `0x97` (R261). -/
def execGhi7 (s : State) : Result := .next (getHigh 7#4 s)

/-- GHI 8, `0x98` (R261). -/
def execGhi8 (s : State) : Result := .next (getHigh 8#4 s)

/-- GHI 9, `0x99` (R261). -/
def execGhi9 (s : State) : Result := .next (getHigh 9#4 s)

/-- GHI A, `0x9A` (R261). -/
def execGhiA (s : State) : Result := .next (getHigh 10#4 s)

/-- GHI B, `0x9B` (R261). -/
def execGhiB (s : State) : Result := .next (getHigh 11#4 s)

/-- GHI C, `0x9C` (R261). -/
def execGhiC (s : State) : Result := .next (getHigh 12#4 s)

/-- GHI D, `0x9D` (R261). -/
def execGhiD (s : State) : Result := .next (getHigh 13#4 s)

/-- GHI E, `0x9E` (R261). -/
def execGhiE (s : State) : Result := .next (getHigh 14#4 s)

/-- GHI F, `0x9F` (R261). -/
def execGhiF (s : State) : Result := .next (getHigh 15#4 s)

/-- PLO 0, `0xA0` (R262). -/
def execPlo0 (s : State) : Result := .next (putLow 0#4 s)

/-- PLO 1, `0xA1` (R262). -/
def execPlo1 (s : State) : Result := .next (putLow 1#4 s)

/-- PLO 2, `0xA2` (R262). -/
def execPlo2 (s : State) : Result := .next (putLow 2#4 s)

/-- PLO 3, `0xA3` (R262). -/
def execPlo3 (s : State) : Result := .next (putLow 3#4 s)

/-- PLO 4, `0xA4` (R262). -/
def execPlo4 (s : State) : Result := .next (putLow 4#4 s)

/-- PLO 5, `0xA5` (R262). -/
def execPlo5 (s : State) : Result := .next (putLow 5#4 s)

/-- PLO 6, `0xA6` (R262). -/
def execPlo6 (s : State) : Result := .next (putLow 6#4 s)

/-- PLO 7, `0xA7` (R262). -/
def execPlo7 (s : State) : Result := .next (putLow 7#4 s)

/-- PLO 8, `0xA8` (R262). -/
def execPlo8 (s : State) : Result := .next (putLow 8#4 s)

/-- PLO 9, `0xA9` (R262). -/
def execPlo9 (s : State) : Result := .next (putLow 9#4 s)

/-- PLO A, `0xAA` (R262). -/
def execPloA (s : State) : Result := .next (putLow 10#4 s)

/-- PLO B, `0xAB` (R262). -/
def execPloB (s : State) : Result := .next (putLow 11#4 s)

/-- PLO C, `0xAC` (R262). -/
def execPloC (s : State) : Result := .next (putLow 12#4 s)

/-- PLO D, `0xAD` (R262). -/
def execPloD (s : State) : Result := .next (putLow 13#4 s)

/-- PLO E, `0xAE` (R262). -/
def execPloE (s : State) : Result := .next (putLow 14#4 s)

/-- PLO F, `0xAF` (R262). -/
def execPloF (s : State) : Result := .next (putLow 15#4 s)

/-- PHI 0, `0xB0` (R263). -/
def execPhi0 (s : State) : Result := .next (putHigh 0#4 s)

/-- PHI 1, `0xB1` (R263). -/
def execPhi1 (s : State) : Result := .next (putHigh 1#4 s)

/-- PHI 2, `0xB2` (R263). -/
def execPhi2 (s : State) : Result := .next (putHigh 2#4 s)

/-- PHI 3, `0xB3` (R263). -/
def execPhi3 (s : State) : Result := .next (putHigh 3#4 s)

/-- PHI 4, `0xB4` (R263). -/
def execPhi4 (s : State) : Result := .next (putHigh 4#4 s)

/-- PHI 5, `0xB5` (R263). -/
def execPhi5 (s : State) : Result := .next (putHigh 5#4 s)

/-- PHI 6, `0xB6` (R263). -/
def execPhi6 (s : State) : Result := .next (putHigh 6#4 s)

/-- PHI 7, `0xB7` (R263). -/
def execPhi7 (s : State) : Result := .next (putHigh 7#4 s)

/-- PHI 8, `0xB8` (R263). -/
def execPhi8 (s : State) : Result := .next (putHigh 8#4 s)

/-- PHI 9, `0xB9` (R263). -/
def execPhi9 (s : State) : Result := .next (putHigh 9#4 s)

/-- PHI A, `0xBA` (R263). -/
def execPhiA (s : State) : Result := .next (putHigh 10#4 s)

/-- PHI B, `0xBB` (R263). -/
def execPhiB (s : State) : Result := .next (putHigh 11#4 s)

/-- PHI C, `0xBC` (R263). -/
def execPhiC (s : State) : Result := .next (putHigh 12#4 s)

/-- PHI D, `0xBD` (R263). -/
def execPhiD (s : State) : Result := .next (putHigh 13#4 s)

/-- PHI E, `0xBE` (R263). -/
def execPhiE (s : State) : Result := .next (putHigh 14#4 s)

/-- PHI F, `0xBF` (R263). -/
def execPhiF (s : State) : Result := .next (putHigh 15#4 s)

/-- SEP 0, `0xD0` (R264). -/
def execSep0 (s : State) : Result := .next (s.setP 0#4)

/-- SEP 1, `0xD1` (R264). -/
def execSep1 (s : State) : Result := .next (s.setP 1#4)

/-- SEP 2, `0xD2` (R264). -/
def execSep2 (s : State) : Result := .next (s.setP 2#4)

/-- SEP 3, `0xD3` (R264). -/
def execSep3 (s : State) : Result := .next (s.setP 3#4)

/-- SEP 4, `0xD4` (R264). -/
def execSep4 (s : State) : Result := .next (s.setP 4#4)

/-- SEP 5, `0xD5` (R264). -/
def execSep5 (s : State) : Result := .next (s.setP 5#4)

/-- SEP 6, `0xD6` (R264). -/
def execSep6 (s : State) : Result := .next (s.setP 6#4)

/-- SEP 7, `0xD7` (R264). -/
def execSep7 (s : State) : Result := .next (s.setP 7#4)

/-- SEP 8, `0xD8` (R264). -/
def execSep8 (s : State) : Result := .next (s.setP 8#4)

/-- SEP 9, `0xD9` (R264). -/
def execSep9 (s : State) : Result := .next (s.setP 9#4)

/-- SEP A, `0xDA` (R264). -/
def execSepA (s : State) : Result := .next (s.setP 10#4)

/-- SEP B, `0xDB` (R264). -/
def execSepB (s : State) : Result := .next (s.setP 11#4)

/-- SEP C, `0xDC` (R264). -/
def execSepC (s : State) : Result := .next (s.setP 12#4)

/-- SEP D, `0xDD` (R264). -/
def execSepD (s : State) : Result := .next (s.setP 13#4)

/-- SEP E, `0xDE` (R264). -/
def execSepE (s : State) : Result := .next (s.setP 14#4)

/-- SEP F, `0xDF` (R264). -/
def execSepF (s : State) : Result := .next (s.setP 15#4)

/-- SEX 0, `0xE0` (R265). -/
def execSex0 (s : State) : Result := .next (s.setX 0#4)

/-- SEX 1, `0xE1` (R265). -/
def execSex1 (s : State) : Result := .next (s.setX 1#4)

/-- SEX 2, `0xE2` (R265). -/
def execSex2 (s : State) : Result := .next (s.setX 2#4)

/-- SEX 3, `0xE3` (R265). -/
def execSex3 (s : State) : Result := .next (s.setX 3#4)

/-- SEX 4, `0xE4` (R265). -/
def execSex4 (s : State) : Result := .next (s.setX 4#4)

/-- SEX 5, `0xE5` (R265). -/
def execSex5 (s : State) : Result := .next (s.setX 5#4)

/-- SEX 6, `0xE6` (R265). -/
def execSex6 (s : State) : Result := .next (s.setX 6#4)

/-- SEX 7, `0xE7` (R265). -/
def execSex7 (s : State) : Result := .next (s.setX 7#4)

/-- SEX 8, `0xE8` (R265). -/
def execSex8 (s : State) : Result := .next (s.setX 8#4)

/-- SEX 9, `0xE9` (R265). -/
def execSex9 (s : State) : Result := .next (s.setX 9#4)

/-- SEX A, `0xEA` (R265). -/
def execSexA (s : State) : Result := .next (s.setX 10#4)

/-- SEX B, `0xEB` (R265). -/
def execSexB (s : State) : Result := .next (s.setX 11#4)

/-- SEX C, `0xEC` (R265). -/
def execSexC (s : State) : Result := .next (s.setX 12#4)

/-- SEX D, `0xED` (R265). -/
def execSexD (s : State) : Result := .next (s.setX 13#4)

/-- SEX E, `0xEE` (R265). -/
def execSexE (s : State) : Result := .next (s.setX 14#4)

/-- SEX F, `0xEF` (R265). -/
def execSexF (s : State) : Result := .next (s.setX 15#4)

end Sys2Proof.Machine
end

