-- ==== Sys2Proof/Machine/ShortBranch.lean ====
section
/-! DEFINITION. The sixteen short branches (spec/42_short_branch.md R120 to R136). -/

namespace Sys2Proof.Machine

/-- R120, the last line: with the operand already fetched, `if c then R[P].lo <- t`; the high byte kept is the one
after the operand fetch (D9, log entry 12). -/
def branchLow (c : Bool) (t : Byte) (s : State) : State := if c then s.setPc (withLo s.pc t) else s

/-- R120 for a condition on `Q`, `D` or `DF`, which the operand fetch does not change. -/
def shortBranch (c : Bool) (t : Byte) (s : State) : State := branchLow c t s.operandFetched

/-- R120 for an external flag: the operand is fetched, the flag is queried once, and the branch is taken iff the flag's
level is `sense` (R125 to R128 with 1, R133 to R136 with 0). -/
def flagBranch (id : Nat) (sense : Bool) (t : Byte) (s : State) : State :=
  branchLow ((s.operandFetched.extFlag id).1 == sense) t (s.operandFetched.extFlag id).2

/-- BR, `0x30 t` (R121). -/
def execBr (b : Byte) (s : State) : Result := .next (shortBranch true b s)

/-- BQ, `0x31 t` (R122). -/
def execBq (b : Byte) (s : State) : Result := .next (shortBranch s.q b s)

/-- BZ, `0x32 t` (R123). -/
def execBz (b : Byte) (s : State) : Result := .next (shortBranch s.dIsZero b s)

/-- BDF, `0x33 t` (R124). -/
def execBdf (b : Byte) (s : State) : Result := .next (shortBranch s.df b s)

/-- B1, `0x34 t` (R125). -/
def execB1 (b : Byte) (s : State) : Result := .next (flagBranch 1 true b s)

/-- B2, `0x35 t` (R126). -/
def execB2 (b : Byte) (s : State) : Result := .next (flagBranch 2 true b s)

/-- B3, `0x36 t` (R127). -/
def execB3 (b : Byte) (s : State) : Result := .next (flagBranch 3 true b s)

/-- B4, `0x37 t` (R128). -/
def execB4 (b : Byte) (s : State) : Result := .next (flagBranch 4 true b s)

/-- SKP, `0x38 t` (R129). -/
def execSkp (b : Byte) (s : State) : Result := .next (shortBranch false b s)

/-- BNQ, `0x39 t` (R130). -/
def execBnq (b : Byte) (s : State) : Result := .next (shortBranch (!s.q) b s)

/-- BNZ, `0x3A t` (R131). -/
def execBnz (b : Byte) (s : State) : Result := .next (shortBranch (!s.dIsZero) b s)

/-- BNF, `0x3B t` (R132). -/
def execBnf (b : Byte) (s : State) : Result := .next (shortBranch (!s.df) b s)

/-- BN1, `0x3C t` (R133). -/
def execBn1 (b : Byte) (s : State) : Result := .next (flagBranch 1 false b s)

/-- BN2, `0x3D t` (R134). -/
def execBn2 (b : Byte) (s : State) : Result := .next (flagBranch 2 false b s)

/-- BN3, `0x3E t` (R135). -/
def execBn3 (b : Byte) (s : State) : Result := .next (flagBranch 3 false b s)

/-- BN4, `0x3F t` (R136). -/
def execBn4 (b : Byte) (s : State) : Result := .next (flagBranch 4 false b s)

end Sys2Proof.Machine
end

