-- ==== Sys2Proof/Machine/System.lean ====
section
/-! DEFINITION. Return, disable, save, mark and the Q latch (spec/44_return_mark_q.md R190 to R195). -/

namespace Sys2Proof.Machine

/-- R192: `MemWrite(R[X], 1, T)`. -/
def saveT (s : State) : State := s.memWrite s.dataPtr s.t

/-- R193: `T <- (X << 4) | P`, `MemWrite(R[2], 1, T)`, `X <- P`, `R[2] <- (R[2] - 1) mod 65536`. -/
def mark (s : State) : State :=
  (((s.setT (packXP s.x s.p)).memWrite (s.reg 2#4) (packXP s.x s.p)).setX s.p).setReg 2#4 (s.reg 2#4 - 1#16)

/-- RET, `0x70` (R190). -/
def execRet (s : State) : Result := .next (s.returnFrom true)

/-- DIS, `0x71` (R191). -/
def execDis (s : State) : Result := .next (s.returnFrom false)

/-- SAV, `0x78` (R192). -/
def execSav (s : State) : Result := .next (saveT s)

/-- MARK, `0x79` (R193). -/
def execMark (s : State) : Result := .next (mark s)

/-- REQ, `0x7A` (R194). -/
def execReq (s : State) : Result := .next (s.latchQ false)

/-- SEQ, `0x7B` (R195). -/
def execSeq (s : State) : Result := .next (s.latchQ true)

end Sys2Proof.Machine
end

