-- ==== Sys2Proof/Machine/Dispatch.lean ====
section
/-! DEFINITION. Dispatch (spec/40_execute_and_alu.md R83): the meaning of each instruction, one arm per row of
spec/opcode_table.json. It runs after the opcode fetch and the cycle charge, so `R[P]` points past the opcode. -/

namespace Sys2Proof.Machine

def exec (i : Instr) (s : State) : Host.Outcome State Fault Refusal :=
  match i with
  | .idl => Sys2Proof.Machine.execIdl s
  | .ldn1 => Sys2Proof.Machine.execLdn1 s
  | .ldn2 => Sys2Proof.Machine.execLdn2 s
  | .ldn3 => Sys2Proof.Machine.execLdn3 s
  | .ldn4 => Sys2Proof.Machine.execLdn4 s
  | .ldn5 => Sys2Proof.Machine.execLdn5 s
  | .ldn6 => Sys2Proof.Machine.execLdn6 s
  | .ldn7 => Sys2Proof.Machine.execLdn7 s
  | .ldn8 => Sys2Proof.Machine.execLdn8 s
  | .ldn9 => Sys2Proof.Machine.execLdn9 s
  | .ldnA => Sys2Proof.Machine.execLdnA s
  | .ldnB => Sys2Proof.Machine.execLdnB s
  | .ldnC => Sys2Proof.Machine.execLdnC s
  | .ldnD => Sys2Proof.Machine.execLdnD s
  | .ldnE => Sys2Proof.Machine.execLdnE s
  | .ldnF => Sys2Proof.Machine.execLdnF s
  | .inc0 => Sys2Proof.Machine.execInc0 s
  | .inc1 => Sys2Proof.Machine.execInc1 s
  | .inc2 => Sys2Proof.Machine.execInc2 s
  | .inc3 => Sys2Proof.Machine.execInc3 s
  | .inc4 => Sys2Proof.Machine.execInc4 s
  | .inc5 => Sys2Proof.Machine.execInc5 s
  | .inc6 => Sys2Proof.Machine.execInc6 s
  | .inc7 => Sys2Proof.Machine.execInc7 s
  | .inc8 => Sys2Proof.Machine.execInc8 s
  | .inc9 => Sys2Proof.Machine.execInc9 s
  | .incA => Sys2Proof.Machine.execIncA s
  | .incB => Sys2Proof.Machine.execIncB s
  | .incC => Sys2Proof.Machine.execIncC s
  | .incD => Sys2Proof.Machine.execIncD s
  | .incE => Sys2Proof.Machine.execIncE s
  | .incF => Sys2Proof.Machine.execIncF s
  | .dec0 => Sys2Proof.Machine.execDec0 s
  | .dec1 => Sys2Proof.Machine.execDec1 s
  | .dec2 => Sys2Proof.Machine.execDec2 s
  | .dec3 => Sys2Proof.Machine.execDec3 s
  | .dec4 => Sys2Proof.Machine.execDec4 s
  | .dec5 => Sys2Proof.Machine.execDec5 s
  | .dec6 => Sys2Proof.Machine.execDec6 s
  | .dec7 => Sys2Proof.Machine.execDec7 s
  | .dec8 => Sys2Proof.Machine.execDec8 s
  | .dec9 => Sys2Proof.Machine.execDec9 s
  | .decA => Sys2Proof.Machine.execDecA s
  | .decB => Sys2Proof.Machine.execDecB s
  | .decC => Sys2Proof.Machine.execDecC s
  | .decD => Sys2Proof.Machine.execDecD s
  | .decE => Sys2Proof.Machine.execDecE s
  | .decF => Sys2Proof.Machine.execDecF s
  | .br b => Sys2Proof.Machine.execBr b s
  | .bq b => Sys2Proof.Machine.execBq b s
  | .bz b => Sys2Proof.Machine.execBz b s
  | .bdf b => Sys2Proof.Machine.execBdf b s
  | .b1 b => Sys2Proof.Machine.execB1 b s
  | .b2 b => Sys2Proof.Machine.execB2 b s
  | .b3 b => Sys2Proof.Machine.execB3 b s
  | .b4 b => Sys2Proof.Machine.execB4 b s
  | .skp b => Sys2Proof.Machine.execSkp b s
  | .bnq b => Sys2Proof.Machine.execBnq b s
  | .bnz b => Sys2Proof.Machine.execBnz b s
  | .bnf b => Sys2Proof.Machine.execBnf b s
  | .bn1 b => Sys2Proof.Machine.execBn1 b s
  | .bn2 b => Sys2Proof.Machine.execBn2 b s
  | .bn3 b => Sys2Proof.Machine.execBn3 b s
  | .bn4 b => Sys2Proof.Machine.execBn4 b s
  | .lda0 => Sys2Proof.Machine.execLda0 s
  | .lda1 => Sys2Proof.Machine.execLda1 s
  | .lda2 => Sys2Proof.Machine.execLda2 s
  | .lda3 => Sys2Proof.Machine.execLda3 s
  | .lda4 => Sys2Proof.Machine.execLda4 s
  | .lda5 => Sys2Proof.Machine.execLda5 s
  | .lda6 => Sys2Proof.Machine.execLda6 s
  | .lda7 => Sys2Proof.Machine.execLda7 s
  | .lda8 => Sys2Proof.Machine.execLda8 s
  | .lda9 => Sys2Proof.Machine.execLda9 s
  | .ldaA => Sys2Proof.Machine.execLdaA s
  | .ldaB => Sys2Proof.Machine.execLdaB s
  | .ldaC => Sys2Proof.Machine.execLdaC s
  | .ldaD => Sys2Proof.Machine.execLdaD s
  | .ldaE => Sys2Proof.Machine.execLdaE s
  | .ldaF => Sys2Proof.Machine.execLdaF s
  | .str0 => Sys2Proof.Machine.execStr0 s
  | .str1 => Sys2Proof.Machine.execStr1 s
  | .str2 => Sys2Proof.Machine.execStr2 s
  | .str3 => Sys2Proof.Machine.execStr3 s
  | .str4 => Sys2Proof.Machine.execStr4 s
  | .str5 => Sys2Proof.Machine.execStr5 s
  | .str6 => Sys2Proof.Machine.execStr6 s
  | .str7 => Sys2Proof.Machine.execStr7 s
  | .str8 => Sys2Proof.Machine.execStr8 s
  | .str9 => Sys2Proof.Machine.execStr9 s
  | .strA => Sys2Proof.Machine.execStrA s
  | .strB => Sys2Proof.Machine.execStrB s
  | .strC => Sys2Proof.Machine.execStrC s
  | .strD => Sys2Proof.Machine.execStrD s
  | .strE => Sys2Proof.Machine.execStrE s
  | .strF => Sys2Proof.Machine.execStrF s
  | .irx => Sys2Proof.Machine.execIrx s
  | .out1 => Sys2Proof.Machine.execOut1 s
  | .out2 => Sys2Proof.Machine.execOut2 s
  | .out3 => Sys2Proof.Machine.execOut3 s
  | .out4 => Sys2Proof.Machine.execOut4 s
  | .out5 => Sys2Proof.Machine.execOut5 s
  | .out6 => Sys2Proof.Machine.execOut6 s
  | .out7 => Sys2Proof.Machine.execOut7 s
  | .x68 => Sys2Proof.Machine.execX68 s
  | .inp1 => Sys2Proof.Machine.execInp1 s
  | .inp2 => Sys2Proof.Machine.execInp2 s
  | .inp3 => Sys2Proof.Machine.execInp3 s
  | .inp4 => Sys2Proof.Machine.execInp4 s
  | .inp5 => Sys2Proof.Machine.execInp5 s
  | .inp6 => Sys2Proof.Machine.execInp6 s
  | .inp7 => Sys2Proof.Machine.execInp7 s
  | .ret => Sys2Proof.Machine.execRet s
  | .dis => Sys2Proof.Machine.execDis s
  | .ldxa => Sys2Proof.Machine.execLdxa s
  | .stxd => Sys2Proof.Machine.execStxd s
  | .adc => Sys2Proof.Machine.execAdc s
  | .sdb => Sys2Proof.Machine.execSdb s
  | .shrc => Sys2Proof.Machine.execShrc s
  | .smb => Sys2Proof.Machine.execSmb s
  | .sav => Sys2Proof.Machine.execSav s
  | .mark => Sys2Proof.Machine.execMark s
  | .req => Sys2Proof.Machine.execReq s
  | .seq => Sys2Proof.Machine.execSeq s
  | .adci b => Sys2Proof.Machine.execAdci b s
  | .sdbi b => Sys2Proof.Machine.execSdbi b s
  | .shlc => Sys2Proof.Machine.execShlc s
  | .smbi b => Sys2Proof.Machine.execSmbi b s
  | .glo0 => Sys2Proof.Machine.execGlo0 s
  | .glo1 => Sys2Proof.Machine.execGlo1 s
  | .glo2 => Sys2Proof.Machine.execGlo2 s
  | .glo3 => Sys2Proof.Machine.execGlo3 s
  | .glo4 => Sys2Proof.Machine.execGlo4 s
  | .glo5 => Sys2Proof.Machine.execGlo5 s
  | .glo6 => Sys2Proof.Machine.execGlo6 s
  | .glo7 => Sys2Proof.Machine.execGlo7 s
  | .glo8 => Sys2Proof.Machine.execGlo8 s
  | .glo9 => Sys2Proof.Machine.execGlo9 s
  | .gloA => Sys2Proof.Machine.execGloA s
  | .gloB => Sys2Proof.Machine.execGloB s
  | .gloC => Sys2Proof.Machine.execGloC s
  | .gloD => Sys2Proof.Machine.execGloD s
  | .gloE => Sys2Proof.Machine.execGloE s
  | .gloF => Sys2Proof.Machine.execGloF s
  | .ghi0 => Sys2Proof.Machine.execGhi0 s
  | .ghi1 => Sys2Proof.Machine.execGhi1 s
  | .ghi2 => Sys2Proof.Machine.execGhi2 s
  | .ghi3 => Sys2Proof.Machine.execGhi3 s
  | .ghi4 => Sys2Proof.Machine.execGhi4 s
  | .ghi5 => Sys2Proof.Machine.execGhi5 s
  | .ghi6 => Sys2Proof.Machine.execGhi6 s
  | .ghi7 => Sys2Proof.Machine.execGhi7 s
  | .ghi8 => Sys2Proof.Machine.execGhi8 s
  | .ghi9 => Sys2Proof.Machine.execGhi9 s
  | .ghiA => Sys2Proof.Machine.execGhiA s
  | .ghiB => Sys2Proof.Machine.execGhiB s
  | .ghiC => Sys2Proof.Machine.execGhiC s
  | .ghiD => Sys2Proof.Machine.execGhiD s
  | .ghiE => Sys2Proof.Machine.execGhiE s
  | .ghiF => Sys2Proof.Machine.execGhiF s
  | .plo0 => Sys2Proof.Machine.execPlo0 s
  | .plo1 => Sys2Proof.Machine.execPlo1 s
  | .plo2 => Sys2Proof.Machine.execPlo2 s
  | .plo3 => Sys2Proof.Machine.execPlo3 s
  | .plo4 => Sys2Proof.Machine.execPlo4 s
  | .plo5 => Sys2Proof.Machine.execPlo5 s
  | .plo6 => Sys2Proof.Machine.execPlo6 s
  | .plo7 => Sys2Proof.Machine.execPlo7 s
  | .plo8 => Sys2Proof.Machine.execPlo8 s
  | .plo9 => Sys2Proof.Machine.execPlo9 s
  | .ploA => Sys2Proof.Machine.execPloA s
  | .ploB => Sys2Proof.Machine.execPloB s
  | .ploC => Sys2Proof.Machine.execPloC s
  | .ploD => Sys2Proof.Machine.execPloD s
  | .ploE => Sys2Proof.Machine.execPloE s
  | .ploF => Sys2Proof.Machine.execPloF s
  | .phi0 => Sys2Proof.Machine.execPhi0 s
  | .phi1 => Sys2Proof.Machine.execPhi1 s
  | .phi2 => Sys2Proof.Machine.execPhi2 s
  | .phi3 => Sys2Proof.Machine.execPhi3 s
  | .phi4 => Sys2Proof.Machine.execPhi4 s
  | .phi5 => Sys2Proof.Machine.execPhi5 s
  | .phi6 => Sys2Proof.Machine.execPhi6 s
  | .phi7 => Sys2Proof.Machine.execPhi7 s
  | .phi8 => Sys2Proof.Machine.execPhi8 s
  | .phi9 => Sys2Proof.Machine.execPhi9 s
  | .phiA => Sys2Proof.Machine.execPhiA s
  | .phiB => Sys2Proof.Machine.execPhiB s
  | .phiC => Sys2Proof.Machine.execPhiC s
  | .phiD => Sys2Proof.Machine.execPhiD s
  | .phiE => Sys2Proof.Machine.execPhiE s
  | .phiF => Sys2Proof.Machine.execPhiF s
  | .lbr a => Sys2Proof.Machine.execLbr a s
  | .lbq a => Sys2Proof.Machine.execLbq a s
  | .lbz a => Sys2Proof.Machine.execLbz a s
  | .lbdf a => Sys2Proof.Machine.execLbdf a s
  | .nop => Sys2Proof.Machine.execNop s
  | .lsnq => Sys2Proof.Machine.execLsnq s
  | .lsnz => Sys2Proof.Machine.execLsnz s
  | .lsnf => Sys2Proof.Machine.execLsnf s
  | .lskp => Sys2Proof.Machine.execLskp s
  | .lbnq a => Sys2Proof.Machine.execLbnq a s
  | .lbnz a => Sys2Proof.Machine.execLbnz a s
  | .lbnf a => Sys2Proof.Machine.execLbnf a s
  | .lsie => Sys2Proof.Machine.execLsie s
  | .lsq => Sys2Proof.Machine.execLsq s
  | .lsz => Sys2Proof.Machine.execLsz s
  | .lsdf => Sys2Proof.Machine.execLsdf s
  | .sep0 => Sys2Proof.Machine.execSep0 s
  | .sep1 => Sys2Proof.Machine.execSep1 s
  | .sep2 => Sys2Proof.Machine.execSep2 s
  | .sep3 => Sys2Proof.Machine.execSep3 s
  | .sep4 => Sys2Proof.Machine.execSep4 s
  | .sep5 => Sys2Proof.Machine.execSep5 s
  | .sep6 => Sys2Proof.Machine.execSep6 s
  | .sep7 => Sys2Proof.Machine.execSep7 s
  | .sep8 => Sys2Proof.Machine.execSep8 s
  | .sep9 => Sys2Proof.Machine.execSep9 s
  | .sepA => Sys2Proof.Machine.execSepA s
  | .sepB => Sys2Proof.Machine.execSepB s
  | .sepC => Sys2Proof.Machine.execSepC s
  | .sepD => Sys2Proof.Machine.execSepD s
  | .sepE => Sys2Proof.Machine.execSepE s
  | .sepF => Sys2Proof.Machine.execSepF s
  | .sex0 => Sys2Proof.Machine.execSex0 s
  | .sex1 => Sys2Proof.Machine.execSex1 s
  | .sex2 => Sys2Proof.Machine.execSex2 s
  | .sex3 => Sys2Proof.Machine.execSex3 s
  | .sex4 => Sys2Proof.Machine.execSex4 s
  | .sex5 => Sys2Proof.Machine.execSex5 s
  | .sex6 => Sys2Proof.Machine.execSex6 s
  | .sex7 => Sys2Proof.Machine.execSex7 s
  | .sex8 => Sys2Proof.Machine.execSex8 s
  | .sex9 => Sys2Proof.Machine.execSex9 s
  | .sexA => Sys2Proof.Machine.execSexA s
  | .sexB => Sys2Proof.Machine.execSexB s
  | .sexC => Sys2Proof.Machine.execSexC s
  | .sexD => Sys2Proof.Machine.execSexD s
  | .sexE => Sys2Proof.Machine.execSexE s
  | .sexF => Sys2Proof.Machine.execSexF s
  | .ldx => Sys2Proof.Machine.execLdx s
  | .or => Sys2Proof.Machine.execOr s
  | .and => Sys2Proof.Machine.execAnd s
  | .xor => Sys2Proof.Machine.execXor s
  | .add => Sys2Proof.Machine.execAdd s
  | .sd => Sys2Proof.Machine.execSd s
  | .shr => Sys2Proof.Machine.execShr s
  | .sm => Sys2Proof.Machine.execSm s
  | .ldi b => Sys2Proof.Machine.execLdi b s
  | .ori b => Sys2Proof.Machine.execOri b s
  | .ani b => Sys2Proof.Machine.execAni b s
  | .xri b => Sys2Proof.Machine.execXri b s
  | .adi b => Sys2Proof.Machine.execAdi b s
  | .sdi b => Sys2Proof.Machine.execSdi b s
  | .shl => Sys2Proof.Machine.execShl s
  | .smi b => Sys2Proof.Machine.execSmi b s

end Sys2Proof.Machine
end

