-- ==== Sys2Proof/WellFormed.lean ====
section
/-! DEFINITION. Well-formedness (spec/30_encoding.md R65, R68). An `Instr` is well formed by its type: every opcode is
defined (R67) and its operand fields have exactly the encoding's widths. What can be ill formed is an assembler line,
whose operand is a number: one check per operand form. -/

namespace Sys2Proof

/-- R68: "register operand: a number 0 to 15"; there is no `LDN 0`, 0x00 is IDL (R69, R101). -/
def regOperandOk (m : RegMnemonic) (n : Nat) : Bool := decide (n < 16) && (m != .ldn || n != 0)

/-- R68: "port operand: a number 1 to 7". -/
def portOperandOk (p : Nat) : Bool := decide (1 ≤ p) && decide (p ≤ 7)

/-- R68: "immediate operand: a byte `0x00` to `0xFF`"; a short-branch operand is a low address byte. -/
def byteOperandOk (v : Nat) : Bool := decide (v < 256)

/-- R68: "long-branch operand: a 16-bit address". -/
def wordOperandOk (a : Nat) : Bool := decide (a < 65536)

/-- The line's operand is one its form admits (R68). -/
def Asm.wellFormed : Asm → Bool
  | .reg m n => regOperandOk m n
  | .port _ p => portOperandOk p
  | .imm _ v => byteOperandOk v
  | .short _ t => byteOperandOk t
  | .long _ a => wordOperandOk a
  | .plain _ => true

/-- R68: a short branch may be written with a label only if the label's high byte is the page R120 puts the branch in,
the page of the address after the operand byte. `opcodeAt` is the address of the opcode. -/
def shortLabelOk (opcodeAt label : Word) : Bool :=
  (opcodeAt + 2#16).extractLsb' 8 8 == label.extractLsb' 8 8

end Sys2Proof
end

