-- ==== Sys2Proof/Decode.lean ====
section
/-! DEFINITION. The decoder (spec/30_encoding.md R60 to R67), total on any bytes and rejecting by name, then the
encoder, then the host's `decodeTableWord`. -/

namespace Sys2Proof

/-- Why a list of bytes is not the start of an instruction. No opcode value is a reason: "every opcode is defined"
(R67). -/
inductive DecodeError where
  /-- There is no opcode byte. -/
  | noOpcode
  /-- The instruction with this opcode has more operand bytes than follow it. -/
  | missingOperand (opcode : Byte)
  deriving DecidableEq, Repr

/-- A row of format `F0`: no operand byte. -/
def fmt0 (i : Instr) : Byte → Byte → Instr := fun _ _ => i

/-- A row of format `F1`: byte 1 is the operand (R62, R63). -/
def fmt1 (f : Byte → Instr) : Byte → Byte → Instr := fun b1 _ => f b1

/-- A row of format `F2`: byte 1 is the high byte of the target, byte 2 the low byte (R45, R64). -/
def fmt2 (f : Word → Instr) : Byte → Byte → Instr := fun b1 b2 => f (b1 ++ b2)

/-- R66, opcodes 0x00 to 0x0F. -/
def decodeRow0 : Vector (Byte → Byte → Instr) 16 :=
  #v[fmt0 .idl, fmt0 .ldn1, fmt0 .ldn2, fmt0 .ldn3, fmt0 .ldn4, fmt0 .ldn5, fmt0 .ldn6, fmt0 .ldn7,
     fmt0 .ldn8, fmt0 .ldn9, fmt0 .ldnA, fmt0 .ldnB, fmt0 .ldnC, fmt0 .ldnD, fmt0 .ldnE, fmt0 .ldnF]

/-- R66, opcodes 0x10 to 0x1F. -/
def decodeRow1 : Vector (Byte → Byte → Instr) 16 :=
  #v[fmt0 .inc0, fmt0 .inc1, fmt0 .inc2, fmt0 .inc3, fmt0 .inc4, fmt0 .inc5, fmt0 .inc6, fmt0 .inc7,
     fmt0 .inc8, fmt0 .inc9, fmt0 .incA, fmt0 .incB, fmt0 .incC, fmt0 .incD, fmt0 .incE, fmt0 .incF]

/-- R66, opcodes 0x20 to 0x2F. -/
def decodeRow2 : Vector (Byte → Byte → Instr) 16 :=
  #v[fmt0 .dec0, fmt0 .dec1, fmt0 .dec2, fmt0 .dec3, fmt0 .dec4, fmt0 .dec5, fmt0 .dec6, fmt0 .dec7,
     fmt0 .dec8, fmt0 .dec9, fmt0 .decA, fmt0 .decB, fmt0 .decC, fmt0 .decD, fmt0 .decE, fmt0 .decF]

/-- R66, opcodes 0x30 to 0x3F. -/
def decodeRow3 : Vector (Byte → Byte → Instr) 16 :=
  #v[fmt1 .br, fmt1 .bq, fmt1 .bz, fmt1 .bdf, fmt1 .b1, fmt1 .b2, fmt1 .b3, fmt1 .b4,
     fmt1 .skp, fmt1 .bnq, fmt1 .bnz, fmt1 .bnf, fmt1 .bn1, fmt1 .bn2, fmt1 .bn3, fmt1 .bn4]

/-- R66, opcodes 0x40 to 0x4F. -/
def decodeRow4 : Vector (Byte → Byte → Instr) 16 :=
  #v[fmt0 .lda0, fmt0 .lda1, fmt0 .lda2, fmt0 .lda3, fmt0 .lda4, fmt0 .lda5, fmt0 .lda6, fmt0 .lda7,
     fmt0 .lda8, fmt0 .lda9, fmt0 .ldaA, fmt0 .ldaB, fmt0 .ldaC, fmt0 .ldaD, fmt0 .ldaE, fmt0 .ldaF]

/-- R66, opcodes 0x50 to 0x5F. -/
def decodeRow5 : Vector (Byte → Byte → Instr) 16 :=
  #v[fmt0 .str0, fmt0 .str1, fmt0 .str2, fmt0 .str3, fmt0 .str4, fmt0 .str5, fmt0 .str6, fmt0 .str7,
     fmt0 .str8, fmt0 .str9, fmt0 .strA, fmt0 .strB, fmt0 .strC, fmt0 .strD, fmt0 .strE, fmt0 .strF]

/-- R66, opcodes 0x60 to 0x6F. -/
def decodeRow6 : Vector (Byte → Byte → Instr) 16 :=
  #v[fmt0 .irx, fmt0 .out1, fmt0 .out2, fmt0 .out3, fmt0 .out4, fmt0 .out5, fmt0 .out6, fmt0 .out7,
     fmt0 .x68, fmt0 .inp1, fmt0 .inp2, fmt0 .inp3, fmt0 .inp4, fmt0 .inp5, fmt0 .inp6, fmt0 .inp7]

/-- R66, opcodes 0x70 to 0x7F. -/
def decodeRow7 : Vector (Byte → Byte → Instr) 16 :=
  #v[fmt0 .ret, fmt0 .dis, fmt0 .ldxa, fmt0 .stxd, fmt0 .adc, fmt0 .sdb, fmt0 .shrc, fmt0 .smb,
     fmt0 .sav, fmt0 .mark, fmt0 .req, fmt0 .seq, fmt1 .adci, fmt1 .sdbi, fmt0 .shlc, fmt1 .smbi]

/-- R66, opcodes 0x80 to 0x8F. -/
def decodeRow8 : Vector (Byte → Byte → Instr) 16 :=
  #v[fmt0 .glo0, fmt0 .glo1, fmt0 .glo2, fmt0 .glo3, fmt0 .glo4, fmt0 .glo5, fmt0 .glo6, fmt0 .glo7,
     fmt0 .glo8, fmt0 .glo9, fmt0 .gloA, fmt0 .gloB, fmt0 .gloC, fmt0 .gloD, fmt0 .gloE, fmt0 .gloF]

/-- R66, opcodes 0x90 to 0x9F. -/
def decodeRow9 : Vector (Byte → Byte → Instr) 16 :=
  #v[fmt0 .ghi0, fmt0 .ghi1, fmt0 .ghi2, fmt0 .ghi3, fmt0 .ghi4, fmt0 .ghi5, fmt0 .ghi6, fmt0 .ghi7,
     fmt0 .ghi8, fmt0 .ghi9, fmt0 .ghiA, fmt0 .ghiB, fmt0 .ghiC, fmt0 .ghiD, fmt0 .ghiE, fmt0 .ghiF]

/-- R66, opcodes 0xA0 to 0xAF. -/
def decodeRowA : Vector (Byte → Byte → Instr) 16 :=
  #v[fmt0 .plo0, fmt0 .plo1, fmt0 .plo2, fmt0 .plo3, fmt0 .plo4, fmt0 .plo5, fmt0 .plo6, fmt0 .plo7,
     fmt0 .plo8, fmt0 .plo9, fmt0 .ploA, fmt0 .ploB, fmt0 .ploC, fmt0 .ploD, fmt0 .ploE, fmt0 .ploF]

/-- R66, opcodes 0xB0 to 0xBF. -/
def decodeRowB : Vector (Byte → Byte → Instr) 16 :=
  #v[fmt0 .phi0, fmt0 .phi1, fmt0 .phi2, fmt0 .phi3, fmt0 .phi4, fmt0 .phi5, fmt0 .phi6, fmt0 .phi7,
     fmt0 .phi8, fmt0 .phi9, fmt0 .phiA, fmt0 .phiB, fmt0 .phiC, fmt0 .phiD, fmt0 .phiE, fmt0 .phiF]

/-- R66, opcodes 0xC0 to 0xCF. -/
def decodeRowC : Vector (Byte → Byte → Instr) 16 :=
  #v[fmt2 .lbr, fmt2 .lbq, fmt2 .lbz, fmt2 .lbdf, fmt0 .nop, fmt0 .lsnq, fmt0 .lsnz, fmt0 .lsnf,
     fmt0 .lskp, fmt2 .lbnq, fmt2 .lbnz, fmt2 .lbnf, fmt0 .lsie, fmt0 .lsq, fmt0 .lsz, fmt0 .lsdf]

/-- R66, opcodes 0xD0 to 0xDF. -/
def decodeRowD : Vector (Byte → Byte → Instr) 16 :=
  #v[fmt0 .sep0, fmt0 .sep1, fmt0 .sep2, fmt0 .sep3, fmt0 .sep4, fmt0 .sep5, fmt0 .sep6, fmt0 .sep7,
     fmt0 .sep8, fmt0 .sep9, fmt0 .sepA, fmt0 .sepB, fmt0 .sepC, fmt0 .sepD, fmt0 .sepE, fmt0 .sepF]

/-- R66, opcodes 0xE0 to 0xEF. -/
def decodeRowE : Vector (Byte → Byte → Instr) 16 :=
  #v[fmt0 .sex0, fmt0 .sex1, fmt0 .sex2, fmt0 .sex3, fmt0 .sex4, fmt0 .sex5, fmt0 .sex6, fmt0 .sex7,
     fmt0 .sex8, fmt0 .sex9, fmt0 .sexA, fmt0 .sexB, fmt0 .sexC, fmt0 .sexD, fmt0 .sexE, fmt0 .sexF]

/-- R66, opcodes 0xF0 to 0xFF. -/
def decodeRowF : Vector (Byte → Byte → Instr) 16 :=
  #v[fmt0 .ldx, fmt0 .or, fmt0 .and, fmt0 .xor, fmt0 .add, fmt0 .sd, fmt0 .shr, fmt0 .sm,
     fmt1 .ldi, fmt1 .ori, fmt1 .ani, fmt1 .xri, fmt1 .adi, fmt1 .sdi, fmt0 .shl, fmt1 .smi]

/-- R66: the sixteen families, by the opcode's high nibble. -/
def decodeRows : Vector (Vector (Byte → Byte → Instr) 16) 16 :=
  #v[decodeRow0, decodeRow1, decodeRow2, decodeRow3, decodeRow4, decodeRow5, decodeRow6, decodeRow7,
     decodeRow8, decodeRow9, decodeRowA, decodeRowB, decodeRowC, decodeRowD, decodeRowE, decodeRowF]

/-- Index a row of sixteen by a nibble. -/
def nibbleGet (v : Vector α 16) (n : BitVec 4) : α := v[n.toNat]'(by have := n.isLt; omega)

/-- The instruction with opcode byte `op` followed by the bytes `b1` and `b2`, of which it uses 0, 1 or 2: family
nibble `op[7:4]`, then `n = op[3:0]` (R60, R65, R66). Total on every byte (R67). -/
def decodeOp (op b1 b2 : Byte) : Instr :=
  nibbleGet (nibbleGet decodeRows (op.extractLsb' 4 4)) (op.extractLsb' 0 4) b1 b2

/-- Read one instruction from the front of a list of bytes; the bytes after it are given back. -/
def decode : List Byte → Except DecodeError (Instr × List Byte)
  | [] => .error .noOpcode
  | op :: rest =>
    let i := decodeOp op (rest.getD 0 0) (rest.getD 1 0)
    if rest.length + 1 < i.length then .error (.missingOperand op) else .ok (i, rest.drop (i.length - 1))

/-- The bytes of an instruction in the order they are fetched (R60, R64, R66). -/
def encode : Instr → List Byte
  | .idl => [0x00#8]
  | .ldn1 => [0x01#8]
  | .ldn2 => [0x02#8]
  | .ldn3 => [0x03#8]
  | .ldn4 => [0x04#8]
  | .ldn5 => [0x05#8]
  | .ldn6 => [0x06#8]
  | .ldn7 => [0x07#8]
  | .ldn8 => [0x08#8]
  | .ldn9 => [0x09#8]
  | .ldnA => [0x0A#8]
  | .ldnB => [0x0B#8]
  | .ldnC => [0x0C#8]
  | .ldnD => [0x0D#8]
  | .ldnE => [0x0E#8]
  | .ldnF => [0x0F#8]
  | .inc0 => [0x10#8]
  | .inc1 => [0x11#8]
  | .inc2 => [0x12#8]
  | .inc3 => [0x13#8]
  | .inc4 => [0x14#8]
  | .inc5 => [0x15#8]
  | .inc6 => [0x16#8]
  | .inc7 => [0x17#8]
  | .inc8 => [0x18#8]
  | .inc9 => [0x19#8]
  | .incA => [0x1A#8]
  | .incB => [0x1B#8]
  | .incC => [0x1C#8]
  | .incD => [0x1D#8]
  | .incE => [0x1E#8]
  | .incF => [0x1F#8]
  | .dec0 => [0x20#8]
  | .dec1 => [0x21#8]
  | .dec2 => [0x22#8]
  | .dec3 => [0x23#8]
  | .dec4 => [0x24#8]
  | .dec5 => [0x25#8]
  | .dec6 => [0x26#8]
  | .dec7 => [0x27#8]
  | .dec8 => [0x28#8]
  | .dec9 => [0x29#8]
  | .decA => [0x2A#8]
  | .decB => [0x2B#8]
  | .decC => [0x2C#8]
  | .decD => [0x2D#8]
  | .decE => [0x2E#8]
  | .decF => [0x2F#8]
  | .br b => [0x30#8, b]
  | .bq b => [0x31#8, b]
  | .bz b => [0x32#8, b]
  | .bdf b => [0x33#8, b]
  | .b1 b => [0x34#8, b]
  | .b2 b => [0x35#8, b]
  | .b3 b => [0x36#8, b]
  | .b4 b => [0x37#8, b]
  | .skp b => [0x38#8, b]
  | .bnq b => [0x39#8, b]
  | .bnz b => [0x3A#8, b]
  | .bnf b => [0x3B#8, b]
  | .bn1 b => [0x3C#8, b]
  | .bn2 b => [0x3D#8, b]
  | .bn3 b => [0x3E#8, b]
  | .bn4 b => [0x3F#8, b]
  | .lda0 => [0x40#8]
  | .lda1 => [0x41#8]
  | .lda2 => [0x42#8]
  | .lda3 => [0x43#8]
  | .lda4 => [0x44#8]
  | .lda5 => [0x45#8]
  | .lda6 => [0x46#8]
  | .lda7 => [0x47#8]
  | .lda8 => [0x48#8]
  | .lda9 => [0x49#8]
  | .ldaA => [0x4A#8]
  | .ldaB => [0x4B#8]
  | .ldaC => [0x4C#8]
  | .ldaD => [0x4D#8]
  | .ldaE => [0x4E#8]
  | .ldaF => [0x4F#8]
  | .str0 => [0x50#8]
  | .str1 => [0x51#8]
  | .str2 => [0x52#8]
  | .str3 => [0x53#8]
  | .str4 => [0x54#8]
  | .str5 => [0x55#8]
  | .str6 => [0x56#8]
  | .str7 => [0x57#8]
  | .str8 => [0x58#8]
  | .str9 => [0x59#8]
  | .strA => [0x5A#8]
  | .strB => [0x5B#8]
  | .strC => [0x5C#8]
  | .strD => [0x5D#8]
  | .strE => [0x5E#8]
  | .strF => [0x5F#8]
  | .irx => [0x60#8]
  | .out1 => [0x61#8]
  | .out2 => [0x62#8]
  | .out3 => [0x63#8]
  | .out4 => [0x64#8]
  | .out5 => [0x65#8]
  | .out6 => [0x66#8]
  | .out7 => [0x67#8]
  | .x68 => [0x68#8]
  | .inp1 => [0x69#8]
  | .inp2 => [0x6A#8]
  | .inp3 => [0x6B#8]
  | .inp4 => [0x6C#8]
  | .inp5 => [0x6D#8]
  | .inp6 => [0x6E#8]
  | .inp7 => [0x6F#8]
  | .ret => [0x70#8]
  | .dis => [0x71#8]
  | .ldxa => [0x72#8]
  | .stxd => [0x73#8]
  | .adc => [0x74#8]
  | .sdb => [0x75#8]
  | .shrc => [0x76#8]
  | .smb => [0x77#8]
  | .sav => [0x78#8]
  | .mark => [0x79#8]
  | .req => [0x7A#8]
  | .seq => [0x7B#8]
  | .adci b => [0x7C#8, b]
  | .sdbi b => [0x7D#8, b]
  | .shlc => [0x7E#8]
  | .smbi b => [0x7F#8, b]
  | .glo0 => [0x80#8]
  | .glo1 => [0x81#8]
  | .glo2 => [0x82#8]
  | .glo3 => [0x83#8]
  | .glo4 => [0x84#8]
  | .glo5 => [0x85#8]
  | .glo6 => [0x86#8]
  | .glo7 => [0x87#8]
  | .glo8 => [0x88#8]
  | .glo9 => [0x89#8]
  | .gloA => [0x8A#8]
  | .gloB => [0x8B#8]
  | .gloC => [0x8C#8]
  | .gloD => [0x8D#8]
  | .gloE => [0x8E#8]
  | .gloF => [0x8F#8]
  | .ghi0 => [0x90#8]
  | .ghi1 => [0x91#8]
  | .ghi2 => [0x92#8]
  | .ghi3 => [0x93#8]
  | .ghi4 => [0x94#8]
  | .ghi5 => [0x95#8]
  | .ghi6 => [0x96#8]
  | .ghi7 => [0x97#8]
  | .ghi8 => [0x98#8]
  | .ghi9 => [0x99#8]
  | .ghiA => [0x9A#8]
  | .ghiB => [0x9B#8]
  | .ghiC => [0x9C#8]
  | .ghiD => [0x9D#8]
  | .ghiE => [0x9E#8]
  | .ghiF => [0x9F#8]
  | .plo0 => [0xA0#8]
  | .plo1 => [0xA1#8]
  | .plo2 => [0xA2#8]
  | .plo3 => [0xA3#8]
  | .plo4 => [0xA4#8]
  | .plo5 => [0xA5#8]
  | .plo6 => [0xA6#8]
  | .plo7 => [0xA7#8]
  | .plo8 => [0xA8#8]
  | .plo9 => [0xA9#8]
  | .ploA => [0xAA#8]
  | .ploB => [0xAB#8]
  | .ploC => [0xAC#8]
  | .ploD => [0xAD#8]
  | .ploE => [0xAE#8]
  | .ploF => [0xAF#8]
  | .phi0 => [0xB0#8]
  | .phi1 => [0xB1#8]
  | .phi2 => [0xB2#8]
  | .phi3 => [0xB3#8]
  | .phi4 => [0xB4#8]
  | .phi5 => [0xB5#8]
  | .phi6 => [0xB6#8]
  | .phi7 => [0xB7#8]
  | .phi8 => [0xB8#8]
  | .phi9 => [0xB9#8]
  | .phiA => [0xBA#8]
  | .phiB => [0xBB#8]
  | .phiC => [0xBC#8]
  | .phiD => [0xBD#8]
  | .phiE => [0xBE#8]
  | .phiF => [0xBF#8]
  | .lbr a => [0xC0#8, a.extractLsb' 8 8, a.extractLsb' 0 8]
  | .lbq a => [0xC1#8, a.extractLsb' 8 8, a.extractLsb' 0 8]
  | .lbz a => [0xC2#8, a.extractLsb' 8 8, a.extractLsb' 0 8]
  | .lbdf a => [0xC3#8, a.extractLsb' 8 8, a.extractLsb' 0 8]
  | .nop => [0xC4#8]
  | .lsnq => [0xC5#8]
  | .lsnz => [0xC6#8]
  | .lsnf => [0xC7#8]
  | .lskp => [0xC8#8]
  | .lbnq a => [0xC9#8, a.extractLsb' 8 8, a.extractLsb' 0 8]
  | .lbnz a => [0xCA#8, a.extractLsb' 8 8, a.extractLsb' 0 8]
  | .lbnf a => [0xCB#8, a.extractLsb' 8 8, a.extractLsb' 0 8]
  | .lsie => [0xCC#8]
  | .lsq => [0xCD#8]
  | .lsz => [0xCE#8]
  | .lsdf => [0xCF#8]
  | .sep0 => [0xD0#8]
  | .sep1 => [0xD1#8]
  | .sep2 => [0xD2#8]
  | .sep3 => [0xD3#8]
  | .sep4 => [0xD4#8]
  | .sep5 => [0xD5#8]
  | .sep6 => [0xD6#8]
  | .sep7 => [0xD7#8]
  | .sep8 => [0xD8#8]
  | .sep9 => [0xD9#8]
  | .sepA => [0xDA#8]
  | .sepB => [0xDB#8]
  | .sepC => [0xDC#8]
  | .sepD => [0xDD#8]
  | .sepE => [0xDE#8]
  | .sepF => [0xDF#8]
  | .sex0 => [0xE0#8]
  | .sex1 => [0xE1#8]
  | .sex2 => [0xE2#8]
  | .sex3 => [0xE3#8]
  | .sex4 => [0xE4#8]
  | .sex5 => [0xE5#8]
  | .sex6 => [0xE6#8]
  | .sex7 => [0xE7#8]
  | .sex8 => [0xE8#8]
  | .sex9 => [0xE9#8]
  | .sexA => [0xEA#8]
  | .sexB => [0xEB#8]
  | .sexC => [0xEC#8]
  | .sexD => [0xED#8]
  | .sexE => [0xEE#8]
  | .sexF => [0xEF#8]
  | .ldx => [0xF0#8]
  | .or => [0xF1#8]
  | .and => [0xF2#8]
  | .xor => [0xF3#8]
  | .add => [0xF4#8]
  | .sd => [0xF5#8]
  | .shr => [0xF6#8]
  | .sm => [0xF7#8]
  | .ldi b => [0xF8#8, b]
  | .ori b => [0xF9#8, b]
  | .ani b => [0xFA#8, b]
  | .xri b => [0xFB#8, b]
  | .adi b => [0xFC#8, b]
  | .sdi b => [0xFD#8, b]
  | .shl => [0xFE#8]
  | .smi b => [0xFF#8, b]

/-- The three bytes of an instruction whose bits are `w`, bit 0 the least significant bit of the first byte, every bit
from `nbits` on 0; three is the longest instruction (R60). -/
def wordBytes (nbits w : Nat) : List Byte :=
  let v := w % 2 ^ nbits
  [BitVec.ofNat 8 v, BitVec.ofNat 8 (v / 256), BitVec.ofNat 8 (v / 65536)]

/-- The instruction the decoder reads from an instruction whose bits are `w`, numbered as spec/opcode_table.json
numbers them. -/
def decodeTableWord (nbits w : Nat) : Option Instr :=
  match decode (wordBytes nbits w) with
  | .ok q => some q.1
  | .error _ => none

end Sys2Proof
end

