-- ==== Sys2Proof/Machine/Fetch.lean ====
section
/-! DEFINITION. Fetching an instruction (spec/40_execute_and_alu.md R81), and placing one where the fetch finds it. -/

namespace Sys2Proof.Machine

/-- R81 `Fetch8()`: the byte of cell `R[P] & 0x0FFF`, and `R[P]` advanced by 1 modulo 65536. -/
def State.fetch8 (s : State) : Byte × State := (s.memRead s.pc, s.setPc (s.pc + 1#16))

/-- The three bytes at `R[P]`, `R[P] + 1` and `R[P] + 2`: an instruction and its operands, if it has any (R60). -/
def State.fetchWindow (s : State) : List Byte :=
  [s.memRead s.pc, s.memRead (s.pc + 1#16), s.memRead (s.pc + 2#16)]

/-- The instruction at `R[P]` and the state after its opcode fetch (R80, R81). Its operand bytes are read here with the
opcode; `R[P]` moves past them in the instruction's own meaning, as R120, R281 and R224 to R233 write it. Nothing is
written between the opcode fetch and the operand fetches, so they read the same bytes (log entry 9). -/
def State.fetchInstr (s : State) : Instr × State :=
  (decodeOp s.fetch8.1 (s.memRead (s.pc + 1#16)) (s.memRead (s.pc + 2#16)), s.fetch8.2)

/-- Put bytes into consecutive cells from address `a` on, past the write guard: what `MEM_INIT` or an image holds
there (R50, R51). -/
def placeBytes (m : Memory) (a : Word) : List Byte → Memory
  | [] => m
  | b :: rest => placeBytes (m.write (a12 a.toNat) b) (a + 1#16) rest

end Sys2Proof.Machine
end

