-- ==== Sys2Proof/Machine/Frame.lean ====
section
/-! DEFINITION. The frame timing state machine (spec/60_exceptions.md R311 to R319, R329): what happens at a step
boundary. -/

namespace Sys2Proof.Machine

/-- R319: the numeric code of a phase signal; `none` is 0, the two others the spec's choice D6. -/
def PhaseSignal.code : PhaseSignal → Nat
  | .none => 0
  | .activeDisplayEnded => 1
  | .interruptPreliminaryEnded => 2

/-- R315 `RecomputeScreenWindow()`: `ScreenBase <- R[0] & 0x0F00`, `ScrollOffset <- R[0] & 0x00FF` (D22, log entry
20). -/
def State.recomputeScreenWindow (s : State) : State :=
  s.setWindow ((s.reg 0#4 &&& 0x0F00#16).extractLsb' 0 12) (loByte (s.reg 0#4))

/-- The idle skip of R313: a 0x00 byte at `R[P]` is stepped over, with the `P` of before the interrupt (D21, log entry
15). -/
def State.idleSkip (s : State) : State :=
  if s.memRead s.pc = 0x00#8 then s.setPc (s.pc + 1#16) else s

/-- R313 `LeaveActiveDisplay()`. -/
def State.leaveActiveDisplay (s : State) : State :=
  let s1 := s.enterPhase .interruptPreliminary s.config.budgetPrelim .activeDisplayEnded
  if s1.displayEnabled then s1.idleSkip.interrupt else s1

/-- R314 `LeaveInterruptPreliminary()`; the `FrameSync()` event is R329. -/
def State.leaveInterruptPreliminary (s : State) : State :=
  ((s.enterPhase .activeDisplay s.config.budgetActive .interruptPreliminaryEnded).recomputeScreenWindow).emit .frameSync

/-- R312 `PhaseTransition()`. -/
def State.phaseTransition (s : State) : State :=
  match s.phase with
  | .activeDisplay => s.leaveActiveDisplay
  | .interruptPreliminary => s.leaveInterruptPreliminary

/-- R80, R84, the boundary check after an instruction: one phase transition if `Cycles < 0`, else the signal is
`none`. -/
def State.boundary (s : State) : State :=
  if s.cycles < 0 then s.phaseTransition else s.setSignal .none

/-- The boundary check on what an instruction answered. -/
def finishStep : Result → Result
  | .next s => .next s.boundary
  | .fault f => .fault f
  | .refused r => .refused r

end Sys2Proof.Machine
end

