-- ==== Sys2Proof/Machine/Step.lean ====
section
/-! DEFINITION. One step, that is one `execute()` call (spec/40_execute_and_alu.md R80): fetch, charge, dispatch,
boundary check. -/

namespace Sys2Proof.Machine

/-- R80 `Step()`. The value returned is the `signal` of the next state (R319). -/
def step (s : State) : Host.Outcome State Fault Refusal :=
  finishStep (exec s.fetchInstr.1 (s.fetchInstr.2.charge s.fetchInstr.1))

/-- `s` with the instruction whose bits are `w` at the address `R[P]` holds, where `step` fetches next. It stands for
the image a run starts with (R50, R51; log entry 8). -/
def State.withFetchWord (s : State) (nbits w : Nat) : State :=
  { s with mem := placeBytes s.mem s.pc (wordBytes nbits w) }

end Sys2Proof.Machine
end

