-- ==== Sys2Proof/Machine/OpcodeMap.lean ====
section
/-! DEFINITION. The opcode map written out as data, for the statements: each of the 256 opcode bytes beside the instruction
it selects (spec/30_encoding.md R66; spec/opcode_table.json) and the length R61 gives it. The decoder and the encoder do
not use it. The assignments inside families are log entry 19. -/

namespace Sys2Proof

/-- R61: the length of the instruction with opcode byte `op`, opcode included. Which of 0xC0 to 0xCF have operands is
decision D18 (log entry 19). -/
def opcodeLength (op : Byte) : Nat :=
  if op.toNat / 16 = 3 ∨ op.toNat ∈ [0x7C, 0x7D, 0x7F, 0xF8, 0xF9, 0xFA, 0xFB, 0xFC, 0xFD, 0xFF] then 2
  else if op.toNat ∈ [0xC0, 0xC1, 0xC2, 0xC3, 0xC9, 0xCA, 0xCB] then 3
  else 1

/-- The opcodes 0x00 to 0x0F without operand bytes (R66). -/
def plainCodes0 : List (Byte × Instr) :=
  [(0x00#8, .idl), (0x01#8, .ldn1), (0x02#8, .ldn2), (0x03#8, .ldn3), (0x04#8, .ldn4), (0x05#8, .ldn5),
   (0x06#8, .ldn6), (0x07#8, .ldn7), (0x08#8, .ldn8), (0x09#8, .ldn9), (0x0A#8, .ldnA), (0x0B#8, .ldnB),
   (0x0C#8, .ldnC), (0x0D#8, .ldnD), (0x0E#8, .ldnE), (0x0F#8, .ldnF)]

/-- The opcodes 0x10 to 0x1F without operand bytes (R66). -/
def plainCodes1 : List (Byte × Instr) :=
  [(0x10#8, .inc0), (0x11#8, .inc1), (0x12#8, .inc2), (0x13#8, .inc3), (0x14#8, .inc4), (0x15#8, .inc5),
   (0x16#8, .inc6), (0x17#8, .inc7), (0x18#8, .inc8), (0x19#8, .inc9), (0x1A#8, .incA), (0x1B#8, .incB),
   (0x1C#8, .incC), (0x1D#8, .incD), (0x1E#8, .incE), (0x1F#8, .incF)]

/-- The opcodes 0x20 to 0x2F without operand bytes (R66). -/
def plainCodes2 : List (Byte × Instr) :=
  [(0x20#8, .dec0), (0x21#8, .dec1), (0x22#8, .dec2), (0x23#8, .dec3), (0x24#8, .dec4), (0x25#8, .dec5),
   (0x26#8, .dec6), (0x27#8, .dec7), (0x28#8, .dec8), (0x29#8, .dec9), (0x2A#8, .decA), (0x2B#8, .decB),
   (0x2C#8, .decC), (0x2D#8, .decD), (0x2E#8, .decE), (0x2F#8, .decF)]

/-- The opcodes 0x40 to 0x4F without operand bytes (R66). -/
def plainCodes4 : List (Byte × Instr) :=
  [(0x40#8, .lda0), (0x41#8, .lda1), (0x42#8, .lda2), (0x43#8, .lda3), (0x44#8, .lda4), (0x45#8, .lda5),
   (0x46#8, .lda6), (0x47#8, .lda7), (0x48#8, .lda8), (0x49#8, .lda9), (0x4A#8, .ldaA), (0x4B#8, .ldaB),
   (0x4C#8, .ldaC), (0x4D#8, .ldaD), (0x4E#8, .ldaE), (0x4F#8, .ldaF)]

/-- The opcodes 0x50 to 0x5F without operand bytes (R66). -/
def plainCodes5 : List (Byte × Instr) :=
  [(0x50#8, .str0), (0x51#8, .str1), (0x52#8, .str2), (0x53#8, .str3), (0x54#8, .str4), (0x55#8, .str5),
   (0x56#8, .str6), (0x57#8, .str7), (0x58#8, .str8), (0x59#8, .str9), (0x5A#8, .strA), (0x5B#8, .strB),
   (0x5C#8, .strC), (0x5D#8, .strD), (0x5E#8, .strE), (0x5F#8, .strF)]

/-- The opcodes 0x60 to 0x6F without operand bytes (R66). -/
def plainCodes6 : List (Byte × Instr) :=
  [(0x60#8, .irx), (0x61#8, .out1), (0x62#8, .out2), (0x63#8, .out3), (0x64#8, .out4), (0x65#8, .out5),
   (0x66#8, .out6), (0x67#8, .out7), (0x68#8, .x68), (0x69#8, .inp1), (0x6A#8, .inp2), (0x6B#8, .inp3),
   (0x6C#8, .inp4), (0x6D#8, .inp5), (0x6E#8, .inp6), (0x6F#8, .inp7)]

/-- The opcodes 0x70 to 0x7F without operand bytes (R66). -/
def plainCodes7 : List (Byte × Instr) :=
  [(0x70#8, .ret), (0x71#8, .dis), (0x72#8, .ldxa), (0x73#8, .stxd), (0x74#8, .adc), (0x75#8, .sdb),
   (0x76#8, .shrc), (0x77#8, .smb), (0x78#8, .sav), (0x79#8, .mark), (0x7A#8, .req), (0x7B#8, .seq),
   (0x7E#8, .shlc)]

/-- The opcodes 0x80 to 0x8F without operand bytes (R66). -/
def plainCodes8 : List (Byte × Instr) :=
  [(0x80#8, .glo0), (0x81#8, .glo1), (0x82#8, .glo2), (0x83#8, .glo3), (0x84#8, .glo4), (0x85#8, .glo5),
   (0x86#8, .glo6), (0x87#8, .glo7), (0x88#8, .glo8), (0x89#8, .glo9), (0x8A#8, .gloA), (0x8B#8, .gloB),
   (0x8C#8, .gloC), (0x8D#8, .gloD), (0x8E#8, .gloE), (0x8F#8, .gloF)]

/-- The opcodes 0x90 to 0x9F without operand bytes (R66). -/
def plainCodes9 : List (Byte × Instr) :=
  [(0x90#8, .ghi0), (0x91#8, .ghi1), (0x92#8, .ghi2), (0x93#8, .ghi3), (0x94#8, .ghi4), (0x95#8, .ghi5),
   (0x96#8, .ghi6), (0x97#8, .ghi7), (0x98#8, .ghi8), (0x99#8, .ghi9), (0x9A#8, .ghiA), (0x9B#8, .ghiB),
   (0x9C#8, .ghiC), (0x9D#8, .ghiD), (0x9E#8, .ghiE), (0x9F#8, .ghiF)]

/-- The opcodes 0xA0 to 0xAF without operand bytes (R66). -/
def plainCodesA : List (Byte × Instr) :=
  [(0xA0#8, .plo0), (0xA1#8, .plo1), (0xA2#8, .plo2), (0xA3#8, .plo3), (0xA4#8, .plo4), (0xA5#8, .plo5),
   (0xA6#8, .plo6), (0xA7#8, .plo7), (0xA8#8, .plo8), (0xA9#8, .plo9), (0xAA#8, .ploA), (0xAB#8, .ploB),
   (0xAC#8, .ploC), (0xAD#8, .ploD), (0xAE#8, .ploE), (0xAF#8, .ploF)]

/-- The opcodes 0xB0 to 0xBF without operand bytes (R66). -/
def plainCodesB : List (Byte × Instr) :=
  [(0xB0#8, .phi0), (0xB1#8, .phi1), (0xB2#8, .phi2), (0xB3#8, .phi3), (0xB4#8, .phi4), (0xB5#8, .phi5),
   (0xB6#8, .phi6), (0xB7#8, .phi7), (0xB8#8, .phi8), (0xB9#8, .phi9), (0xBA#8, .phiA), (0xBB#8, .phiB),
   (0xBC#8, .phiC), (0xBD#8, .phiD), (0xBE#8, .phiE), (0xBF#8, .phiF)]

/-- The opcodes 0xC0 to 0xCF without operand bytes (R66). -/
def plainCodesC : List (Byte × Instr) :=
  [(0xC4#8, .nop), (0xC5#8, .lsnq), (0xC6#8, .lsnz), (0xC7#8, .lsnf), (0xC8#8, .lskp), (0xCC#8, .lsie),
   (0xCD#8, .lsq), (0xCE#8, .lsz), (0xCF#8, .lsdf)]

/-- The opcodes 0xD0 to 0xDF without operand bytes (R66). -/
def plainCodesD : List (Byte × Instr) :=
  [(0xD0#8, .sep0), (0xD1#8, .sep1), (0xD2#8, .sep2), (0xD3#8, .sep3), (0xD4#8, .sep4), (0xD5#8, .sep5),
   (0xD6#8, .sep6), (0xD7#8, .sep7), (0xD8#8, .sep8), (0xD9#8, .sep9), (0xDA#8, .sepA), (0xDB#8, .sepB),
   (0xDC#8, .sepC), (0xDD#8, .sepD), (0xDE#8, .sepE), (0xDF#8, .sepF)]

/-- The opcodes 0xE0 to 0xEF without operand bytes (R66). -/
def plainCodesE : List (Byte × Instr) :=
  [(0xE0#8, .sex0), (0xE1#8, .sex1), (0xE2#8, .sex2), (0xE3#8, .sex3), (0xE4#8, .sex4), (0xE5#8, .sex5),
   (0xE6#8, .sex6), (0xE7#8, .sex7), (0xE8#8, .sex8), (0xE9#8, .sex9), (0xEA#8, .sexA), (0xEB#8, .sexB),
   (0xEC#8, .sexC), (0xED#8, .sexD), (0xEE#8, .sexE), (0xEF#8, .sexF)]

/-- The opcodes 0xF0 to 0xFF without operand bytes (R66). -/
def plainCodesF : List (Byte × Instr) :=
  [(0xF0#8, .ldx), (0xF1#8, .or), (0xF2#8, .and), (0xF3#8, .xor), (0xF4#8, .add), (0xF5#8, .sd),
   (0xF6#8, .shr), (0xF7#8, .sm), (0xFE#8, .shl)]

/-- The opcodes without operand bytes (R66). -/
def plainCodes : List (Byte × Instr) :=
  plainCodes0 ++ plainCodes1 ++ plainCodes2 ++ plainCodes4 ++ plainCodes5 ++ plainCodes6 ++
  plainCodes7 ++ plainCodes8 ++ plainCodes9 ++ plainCodesA ++ plainCodesB ++ plainCodesC ++
  plainCodesD ++ plainCodesE ++ plainCodesF

/-- The opcodes with one operand byte (R66). -/
def byteCodes : List (Byte × (Byte → Instr)) :=
  [(0x30#8, .br), (0x31#8, .bq), (0x32#8, .bz), (0x33#8, .bdf), (0x34#8, .b1), (0x35#8, .b2),
   (0x36#8, .b3), (0x37#8, .b4), (0x38#8, .skp), (0x39#8, .bnq), (0x3A#8, .bnz), (0x3B#8, .bnf),
   (0x3C#8, .bn1), (0x3D#8, .bn2), (0x3E#8, .bn3), (0x3F#8, .bn4), (0x7C#8, .adci), (0x7D#8, .sdbi),
   (0x7F#8, .smbi), (0xF8#8, .ldi), (0xF9#8, .ori), (0xFA#8, .ani), (0xFB#8, .xri), (0xFC#8, .adi),
   (0xFD#8, .sdi), (0xFF#8, .smi)]

/-- The opcodes with two operand bytes, the target of a long branch (R64, R66). -/
def wordCodes : List (Byte × (Word → Instr)) :=
  [(0xC0#8, .lbr), (0xC1#8, .lbq), (0xC2#8, .lbz), (0xC3#8, .lbdf), (0xC9#8, .lbnq), (0xCA#8, .lbnz),
   (0xCB#8, .lbnf)]

end Sys2Proof
end

