-- ==== Sys2Proof/Machine/HostOps.lean ====
section
/-! DEFINITION. The host interface of the CORE (spec/60_exceptions.md R340 to R344, spec/20_memory.md R48 to R52,
spec/10_state.md R29, spec/70_reset_and_hazards.md R350). Every host action takes place between two steps. -/

namespace Sys2Proof.Machine

/-- R350 `reset()`: every element except `MEM` to its reset value, no event. The model's own fields stay as they are:
the parameters, the outputs already emitted and the host's answers are outside the CORE (log entry 25). -/
def State.hostReset (s : State) : State :=
  { State.start s.config s.mem with
    trace := s.trace, signal := s.signal, keypadAnswers := s.keypadAnswers, keypadQueries := s.keypadQueries }

/-- R48 `readMemory(address)`, of an address of any width (R41). -/
def State.readMemory (s : State) (address : Nat) : Byte := s.mem.read (a12 address)

/-- R49 `writeMemory(address, byte)`, with the guard of R43. -/
def State.writeMemory (s : State) (address : Nat) (v : Byte) : State :=
  if isRam (a12 address) then { s with mem := s.mem.write (a12 address) v } else s

/-- R50: image bytes into the cells from `A12(base)` on; a byte that would land in 0x800 to 0x9FF is skipped (D26). -/
def loadBytes (m : Memory) (base : Nat) : List Byte → Memory
  | [] => m
  | b :: rest => loadBytes (if isRam (a12 base) then m else m.write (a12 base) b) (base + 1) rest

/-- R50 `loadImage(bytes, baseAddress = 0x400)`. -/
def State.loadImage (s : State) (bytes : List Byte) (base : Nat := 0x400) : State :=
  { s with mem := loadBytes s.mem base bytes }

/-- R342 `getScreenBase()`: `none` when the display is disabled, else the latched base. -/
def State.getScreenBase (s : State) : Option Addr12 := if s.displayEnabled then some s.screenBase else none

/-- R342 `getScrollOffset()`: the latched offset. -/
def State.getScrollOffset (s : State) : Byte := s.scrollOffset

/-- R29, R343 `getProgramCounter()`: `R[P]` as a 16-bit word, not masked (D38). -/
def State.getProgramCounter (s : State) : Word := s.pc

/-- What `snapshot()` returns (R29). -/
structure Snapshot where
  d : Byte
  df : Bool
  x : RegNo
  p : RegNo
  t : Byte
  ie : Bool
  q : Bool
  r : Vector Word 16
  cycles : Int
  phase : Phase
  deriving DecidableEq, Repr

/-- R29 `snapshot()`. -/
def State.snapshot (s : State) : Snapshot :=
  { d := s.d, df := s.df, x := s.x, p := s.p, t := s.t, ie := s.ie, q := s.q, r := s.r, cycles := s.cycles,
    phase := s.phase }

/-- What the host can do to the CORE between two steps, and `execute()` itself (R5, R52, R344). The queries change
nothing and are the functions above. -/
inductive HostAction where
  /-- `execute()` (R340). -/
  | execute
  /-- `reset()` (R350). -/
  | reset
  /-- `writeMemory(address, byte)` (R49). -/
  | writeMemory (address : Nat) (v : Byte)
  /-- `loadImage(bytes, baseAddress)` (R50). -/
  | loadImage (bytes : List Byte) (base : Nat)
  /-- The answer the host will give to a coming keypad query (R336, log entry 4). -/
  | answerKeypad (b : Bool)
  deriving DecidableEq, Repr

/-- One host action (R344). -/
def State.act (s : State) : HostAction → Result
  | .execute => step s
  | .reset => .next s.hostReset
  | .writeMemory a v => .next (s.writeMemory a v)
  | .loadImage bytes base => .next (s.loadImage bytes base)
  | .answerKeypad b => .next { s with keypadAnswers := s.keypadAnswers ++ [b] }

end Sys2Proof.Machine
end

