-- ==== Sys2Proof/Safety.lean ====
section
/-! DEFINITION. What claims speak of: the invariant of the machine, the frame of an instruction, running several steps,
and the guards by which a cautious claim keeps off the points the spec decided for itself
(spec/92_eei_decisions.md "Guards a cautious model adds"). -/

namespace Sys2Proof.Machine

/-- The invariant of every step boundary (R19, R25): memory is in its canonical form, and
`0 <= Cycles <= max(BUDGET_ACTIVE, BUDGET_PRELIM)`. The other clauses of R25 (widths of registers and flags) hold by
the types. -/
structure State.Inv (s : State) : Prop where
  mem_wf : s.mem.wf
  cycles_nonneg : 0 ≤ s.cycles
  cycles_le : s.cycles ≤ max (s.config.budgetActive : Int) (s.config.budgetPrelim : Int)

/-- `k` steps of the machine (`execute()` called `k` times). -/
def runSteps (k : Nat) (s : State) : Result := Host.Core.run Sys2Proof.core k s

/-- The instruction the next step runs. -/
def State.nextInstr (s : State) : Instr := s.fetchInstr.1

/-! ### Frames: what two states agree on -/

/-- Every register but those in `ns`. -/
def SameRegsBut (ns : List RegNo) (s t : State) : Prop := ∀ m, m ∉ ns → t.reg m = s.reg m

/-- Every byte of memory, through the machine's read of one byte. -/
def SameMem (s t : State) : Prop := ∀ a, t.memRead a = s.memRead a

/-- Every byte of memory but the cell `a` addresses. -/
def SameMemBut (a : Word) (s t : State) : Prop :=
  ∀ b : Word, a12 b.toNat ≠ a12 a.toNat → t.memRead b = s.memRead b

/-- The effect of `MemWrite(a, 1, v)` on memory (R43): the cell `a` addresses holds `v` if it is RAM and what it held
otherwise, and every other cell is as before. -/
def StoredAt (a : Word) (v : Byte) (s t : State) : Prop :=
  t.memRead a = (if isRam (a12 a.toNat) then v else s.memRead a) ∧ SameMemBut a s t

/-- `Q`, `IE`, `T`, `X` and `P`. -/
def SameControl (s t : State) : Prop := t.q = s.q ∧ t.ie = s.ie ∧ t.t = s.t ∧ t.x = s.x ∧ t.p = s.p

/-- `D` and `DF`. -/
def SameAcc (s t : State) : Prop := t.d = s.d ∧ t.df = s.df

/-- The frame FSM: `Cycles`, `Phase`, the screen window, and the last phase signal and the parameters with them. -/
def SameFrame (s t : State) : Prop :=
  t.cycles = s.cycles ∧ t.phase = s.phase ∧ t.screenBase = s.screenBase ∧ t.scrollOffset = s.scrollOffset ∧
    t.signal = s.signal ∧ t.config = s.config

/-- The two bridge latches. -/
def SameLatches (s t : State) : Prop := t.displayEnabled = s.displayEnabled ∧ t.keySel = s.keySel

/-- No event, and no keypad query. -/
def SameIO (s t : State) : Prop :=
  t.trace = s.trace ∧ t.keypadAnswers = s.keypadAnswers ∧ t.keypadQueries = s.keypadQueries

/-- The frame FSM, the bridge latches and the interface, which most instructions leave alone. -/
def SameOutside (s t : State) : Prop := SameFrame s t ∧ SameLatches s t ∧ SameIO s t

/-- Everything but the registers in `ns`, `D` and `DF`. -/
def SameBut (ns : List RegNo) (s t : State) : Prop :=
  SameRegsBut ns s t ∧ SameMem s t ∧ SameControl s t ∧ SameOutside s t

/-- `R[n]` has been stepped by `k` modulo 65536 (R90: 65535 stands for -1). -/
def Stepped (n : RegNo) (k : Nat) (s t : State) : Prop := (t.reg n).toNat = ((s.reg n).toNat + k) % 65536

/-- Each row's instruction is the single byte with high nibble `fam` and low nibble the row's number (R60, R65). -/
def CodedBy (fam : BitVec 4) (rows : List (Instr × RegNo)) : Prop := ∀ q ∈ rows, encode q.1 = [fam ++ q.2]

/-- The rows have every one of the sixteen registers (R10, R65). -/
def EveryReg (rows : List (Instr × RegNo)) : Prop := ∀ n, ∃ q ∈ rows, q.2 = n

/-- The instruction's opcode byte is one of `ops`. -/
def OpcodeIn (ops : List Byte) (i : Instr) : Prop := ∃ op ∈ ops, (encode i).head? = some op

/-- `s` with the frame FSM's own elements (R19, R20, R21, R319) replaced. -/
def State.retimed (s : State) (c : Int) (ph : Phase) (base : Addr12) (scroll : Byte) (sig : PhaseSignal) : State :=
  { s with cycles := c, phase := ph, screenBase := base, scrollOffset := scroll, signal := sig }

/-- R84: the number of steps a phase entered with budget `b` lasts. -/
def phaseSteps (b : Nat) : Nat := b / 2 + 1

/-! ### Guards: runs on which no claim rests on the spec's decisions D9, D12, D13, D20, D23 -/

/-- U3: the operand byte of the instruction at `R[P]` is the last byte of a 256-byte page. -/
def State.operandEndsPage (s : State) : Bool := loByte (s.pc + 1#16) == 0xFF#8

/-- The next instruction is a short branch; taken or not, it is guarded. -/
def isShortBranch (i : Instr) : Bool :=
  match encode i with
  | op :: _ => op.extractLsb' 4 4 == 0x3#4
  | [] => false

/-- The next step is outside every guarded case: 0x68 (U1), a short branch whose operand ends a page (U3), RET or DIS
with `X != 2` (U4), an input, whose `D` the spec supplies (U2), OUT 1 with a nonzero byte (U11). The model runs all of
them, by the rules; a claim that should not rest on the decisions assumes this of every state of its run. -/
def State.guarded (s : State) : Bool :=
  let i := s.nextInstr
  i != .x68 && !(isShortBranch i && s.operandEndsPage) &&
    !((i == .ret || i == .dis) && s.x != 2#4) &&
    !(Instr.inpRows.any (fun q => q.1 == i)) &&
    !(i == .out1 && s.dataByte != 0#8)

/-- A run of `k` steps that stays inside the guards. -/
def SafeRun : Nat → State → Prop
  | 0, _ => True
  | k + 1, s => s.guarded = true ∧ ∀ t, step s = .next t → SafeRun k t

end Sys2Proof.Machine
end

