-- ==== Sys2Proof/Certificates/Slice0/Obligations.lean ====
section
/-! DEFINITION. The statements for the provers. An instruction's statement is about `exec`, that is the body
`Dispatch(op)` the spec's rules write: the opcode fetch and the cycle charge have happened, so `R[P]` points past the
opcode. `StepRunsTheDecodedInstruction` ties them to the step. A statement whose rule rests on a decision of
spec/92_eei_decisions.md says so and names the log entry. -/

open Sys2Proof Sys2Proof.Machine

/-! ## Instructions 0x00 to 0x2F -/

/-- R100 (reading C10, D11: log entry 11): IDL takes back the advance of the opcode fetch and changes nothing else; so a
whole step of it with a cycle to spare leaves `R[P]` unchanged, `Cycles` down by 2, nothing else changed, and the
signal `none`. -/
def Obligations.IdlTakesBackTheFetch : Prop :=
  (∀ s : State, ∃ t, exec .idl s = .next t ∧ Stepped s.p 65535 s t ∧ SameAcc s t ∧ SameBut [s.p] s t) ∧
  ∀ s : State, s.memRead s.pc = 0#8 → 2 ≤ s.cycles →
    ∃ t, step s = .next t ∧ t.cycles = s.cycles - 2 ∧ t.signal = .none ∧ SameRegsBut [] s t ∧ SameMem s t ∧
      SameAcc s t ∧ SameControl s t ∧ SameLatches s t ∧ SameIO s t ∧ t.phase = s.phase ∧
      t.screenBase = s.screenBase ∧ t.scrollOffset = s.scrollOffset

/-- R101: LDN n, for n = 1 to 15, is the one byte 0x0n and loads `D` from the cell `R[n]` addresses without changing
`R[n]`. -/
def Obligations.LdnLoadsD : Prop :=
  CodedBy 0x0#4 Instr.ldnRows ∧ (∀ n : RegNo, n ≠ 0#4 ↔ ∃ q ∈ Instr.ldnRows, q.2 = n) ∧
  ∀ q ∈ Instr.ldnRows, ∀ s : State, ∃ t, exec q.1 s = .next t ∧
    t.d = s.memRead (s.reg q.2) ∧ t.df = s.df ∧ SameBut [] s t

/-- R102, R103: INC n adds and DEC n subtracts 1 modulo 65536. Which of 0x10 to 0x2F increments is decision D7 (log
entry 19). -/
def Obligations.IncAndDecStepTheRegister : Prop :=
  CodedBy 0x1#4 Instr.incRows ∧ EveryReg Instr.incRows ∧ CodedBy 0x2#4 Instr.decRows ∧ EveryReg Instr.decRows ∧
  (∀ q ∈ Instr.incRows, ∀ s : State, ∃ t, exec q.1 s = .next t ∧
    Stepped q.2 1 s t ∧ SameAcc s t ∧ SameBut [q.2] s t) ∧
  (∀ q ∈ Instr.decRows, ∀ s : State, ∃ t, exec q.1 s = .next t ∧
    Stepped q.2 65535 s t ∧ SameAcc s t ∧ SameBut [q.2] s t)

/-! ## Short branches -/

/-- R120 to R124, R129 to R132: a short branch on a register condition. The operand byte is always consumed; if the
condition holds only the low byte of `R[P]` is replaced, the high byte being the one after the operand fetch
(decision D9, log entry 12). -/
def Obligations.ShortBranchesOnRegisters : Prop :=
  ∀ q ∈ ([(.br, fun _ => true), (.bq, fun s => s.q), (.bz, fun s => decide (s.d.toNat = 0)), (.bdf, fun s => s.df),
      (.skp, fun _ => false), (.bnq, fun s => !s.q), (.bnz, fun s => decide (s.d.toNat ≠ 0)), (.bnf, fun s => !s.df)] :
      List ((Byte → Instr) × (State → Bool))),
    ∀ (b : Byte) (s : State), ∃ t, exec (q.1 b) s = .next t ∧
      (t.reg s.p).toNat =
        (if q.2 s then ((s.pc.toNat + 1) % 65536) / 256 * 256 + b.toNat else (s.pc.toNat + 1) % 65536) ∧
      SameAcc s t ∧ SameBut [s.p] s t

/-- R120, R125, R126, R133, R134, R335: B1 always branches and BN1 never does (flag 1 is hard-wired true); B2 and BN2
follow the parameter `EF2_LEVEL` (decision D10, log entry 3); no event. A taken branch replaces only the low byte of
`R[P]`, the high byte being the one after the operand fetch (decision D9, log entry 12). -/
def Obligations.BranchesOnFlagsOneAndTwo : Prop :=
  ∀ q ∈ ([(.b1, fun _ => true), (.bn1, fun _ => false), (.b2, fun s => s.config.ef2Level),
      (.bn2, fun s => !s.config.ef2Level)] : List ((Byte → Instr) × (State → Bool))),
    ∀ (b : Byte) (s : State), ∃ t, exec (q.1 b) s = .next t ∧
      (t.reg s.p).toNat =
        (if q.2 s then ((s.pc.toNat + 1) % 65536) / 256 * 256 + b.toNat else (s.pc.toNat + 1) % 65536) ∧
      SameAcc s t ∧ SameBut [s.p] s t

/-- R120, R127, R128, R135, R136, R336: a branch on flag 3 or 4 emits `KeypadSelect` of pad 1 or 2 once, takes one
answer of the host, and branches iff the answer is the level it tests, whatever the host answers (decision D10 for
the pads, log entry 4). A taken branch replaces only the low byte of `R[P]`, the high byte being the one after the
operand fetch (decision D9, log entry 12). -/
def Obligations.BranchesOnTheKeypads : Prop :=
  ∀ q ∈ ([(.b3, .pad1, true), (.bn3, .pad1, false), (.b4, .pad2, true), (.bn4, .pad2, false)] :
      List ((Byte → Instr) × Keypad × Bool)),
    ∀ (b : Byte) (s : State), ∃ t, exec (q.1 b) s = .next t ∧
      (∀ answer rest, s.keypadAnswers = answer :: rest → t.keypadAnswers = rest ∧
        (t.reg s.p).toNat = (if answer = q.2.2 then ((s.pc.toNat + 1) % 65536) / 256 * 256 + b.toNat
          else (s.pc.toNat + 1) % 65536)) ∧
      (s.keypadAnswers = [] → t.keypadAnswers = [] ∧
        (t.reg s.p).toNat = (if Config.keypadQuery s.keypadQueries q.2.1 s.keySel = q.2.2
          then ((s.pc.toNat + 1) % 65536) / 256 * 256 + b.toNat else (s.pc.toNat + 1) % 65536)) ∧
      t.trace = s.trace ++ [.keypadSelect q.2.1] ∧ t.keypadQueries = s.keypadQueries + 1 ∧
      SameRegsBut [s.p] s t ∧ SameMem s t ∧ SameAcc s t ∧ SameControl s t ∧ SameFrame s t ∧ SameLatches s t

/-! ## Load-advance, store and I/O -/

/-- R150: LDA n, for every n, is the one byte 0x4n; `D` is the byte `R[n]` addressed, then `R[n]` advances. -/
def Obligations.LdaLoadsAndAdvances : Prop :=
  CodedBy 0x4#4 Instr.ldaRows ∧ EveryReg Instr.ldaRows ∧
  ∀ q ∈ Instr.ldaRows, ∀ s : State, ∃ t, exec q.1 s = .next t ∧
    t.d = s.memRead (s.reg q.2) ∧ t.df = s.df ∧ Stepped q.2 1 s t ∧ SameBut [q.2] s t

/-- R151: STR n, for every n, is the one byte 0x5n and stores `D` through the write guard at the address `R[n]` holds;
no register changes. -/
def Obligations.StrStoresD : Prop :=
  CodedBy 0x5#4 Instr.strRows ∧ EveryReg Instr.strRows ∧
  ∀ q ∈ Instr.strRows, ∀ s : State, s.mem.wf → ∃ t, exec q.1 s = .next t ∧
    StoredAt (s.reg q.2) s.d s t ∧ SameRegsBut [] s t ∧ SameAcc s t ∧ SameControl s t ∧ SameOutside s t

/-- R152, R154: LDXA is 0x72, `D` is the byte `R[X]` addressed, then `R[X]` advances; IRX is 0x60 and only advances
`R[X]`. -/
def Obligations.LdxaAndIrxAdvanceTheDataPointer : Prop :=
  encode .ldxa = [0x72#8] ∧ encode .irx = [0x60#8] ∧
  (∀ s : State, ∃ t, exec .ldxa s = .next t ∧
    t.d = s.memRead (s.reg s.x) ∧ t.df = s.df ∧ Stepped s.x 1 s t ∧ SameBut [s.x] s t) ∧
  ∀ s : State, ∃ t, exec .irx s = .next t ∧ Stepped s.x 1 s t ∧ SameAcc s t ∧ SameBut [s.x] s t

/-- R153: STXD is 0x73; it stores `D` through the write guard at the address `R[X]` holds, then steps `R[X]` down, also
when the write is discarded. -/
def Obligations.StxdStoresAndDecrements : Prop :=
  encode .stxd = [0x73#8] ∧
  ∀ s : State, s.mem.wf → ∃ t, exec .stxd s = .next t ∧
    StoredAt (s.reg s.x) s.d s t ∧ Stepped s.x 65535 s t ∧ SameRegsBut [s.x] s t ∧ SameAcc s t ∧
    SameControl s t ∧ SameOutside s t

/-- R155, R332, R333: OUT p emits `PortOut(p, M)` with the byte `M` that `R[X]` addresses and advances `R[X]`; port 1
clears `DisplayEnabled`, port 2 latches `M & 0x0F` into `KeySel`, ports 3 to 7 change no latch. Rests on decisions
D14, D23, D27 (log entries 16, 19). -/
def Obligations.OutEmitsAndAdvances : Prop :=
  ∀ q ∈ Instr.outRows, ∀ s : State, ∃ t, exec q.1 s = .next t ∧
    t.trace = s.trace ++ [.portOut q.2 (s.memRead (s.reg s.x))] ∧ Stepped s.x 1 s t ∧
    t.displayEnabled = (if q.2 = 1#3 then false else s.displayEnabled) ∧
    t.keySel.toNat = (if q.2 = 2#3 then (s.memRead (s.reg s.x)).toNat % 16 else s.keySel.toNat) ∧
    SameRegsBut [s.x] s t ∧ SameMem s t ∧ SameAcc s t ∧ SameControl s t ∧ SameFrame s t ∧
    t.keypadAnswers = s.keypadAnswers ∧ t.keypadQueries = s.keypadQueries

/-- R156 and R286, whole steps with a cycle to spare: X68 (decision D12, log entry 10) and NOP (that 0xC4 is NOP:
decision D18, log entry 19) only advance `R[P]` by 1 and take 2 cycles (D2, log entry 6). -/
def Obligations.NoEffectInstructionsOnlyAdvance : Prop :=
  ∀ q ∈ ([(.x68, 0x68#8), (.nop, 0xC4#8)] : List (Instr × Byte)),
    (∀ s : State, ∃ t, exec q.1 s = .next t ∧ SameAcc s t ∧ SameBut [] s t) ∧
    ∀ s : State, s.memRead s.pc = q.2 → 2 ≤ s.cycles → ∃ t, step s = .next t ∧
      Stepped s.p 1 s t ∧ t.cycles = s.cycles - 2 ∧ t.phase = s.phase ∧ SameRegsBut [s.p] s t ∧ SameMem s t ∧
      SameAcc s t ∧ SameControl s t ∧ SameLatches s t ∧ SameIO s t

/-- R157, R334: INP p takes 0x00 from the port, stores it through the write guard at the address `R[X]` holds, and loads
it into `D` (decision D13, log entry 17); port 1 sets `DisplayEnabled`; `R[X]` is not changed (port numbers: D14,
log entry 19). -/
def Obligations.InpStoresZeroAndLoadsD : Prop :=
  ∀ q ∈ Instr.inpRows, ∀ s : State, s.mem.wf → ∃ t, exec q.1 s = .next t ∧
    StoredAt (s.reg s.x) 0x00#8 s t ∧ t.d = 0x00#8 ∧ t.df = s.df ∧
    t.displayEnabled = (if q.2 = 1#3 then true else s.displayEnabled) ∧ t.keySel = s.keySel ∧
    t.trace = s.trace ++ [.portIn q.2] ∧ t.keypadAnswers = s.keypadAnswers ∧
    t.keypadQueries = s.keypadQueries ∧ SameRegsBut [] s t ∧ SameControl s t ∧ SameFrame s t

/-! ## Return, disable, save, mark, Q -/

/-- R190, R191: RET and DIS take `(X, P)` from the byte `R[2]` addresses, high nibble to `X` and low nibble to `P`,
advance `R[2]`, and leave `IE` at 1 or 0. The pointer `R[2]` is decision D20 (log entry 13). -/
def Obligations.ReturnsRestoreXAndP : Prop :=
  ∀ q ∈ ([(.ret, true), (.dis, false)] : List (Instr × Bool)), ∀ s : State, ∃ t, exec q.1 s = .next t ∧
    t.x.toNat = (s.memRead (s.reg 2#4)).toNat / 16 ∧ t.p.toNat = (s.memRead (s.reg 2#4)).toNat % 16 ∧
    t.ie = q.2 ∧ Stepped 2#4 1 s t ∧ SameRegsBut [2#4] s t ∧ SameMem s t ∧ SameAcc s t ∧ t.t = s.t ∧ t.q = s.q ∧
    SameOutside s t

/-- R192: SAV is 0x78 and stores `T` through the write guard at the address `R[X]` holds; `R[X]` and `T` are not
changed. -/
def Obligations.SavStoresT : Prop :=
  encode .sav = [0x78#8] ∧
  ∀ s : State, s.mem.wf → ∃ t, exec .sav s = .next t ∧
    StoredAt (s.reg s.x) s.t s t ∧ SameRegsBut [] s t ∧ SameAcc s t ∧ SameControl s t ∧ SameOutside s t

/-- R193: MARK is 0x79; `T` becomes `(X << 4) | P` and is stored through the write guard at the address `R[2]` holds,
`X` becomes `P`, `R[2]` steps down; all but the store happen even if it is discarded, and `P` is not changed. -/
def Obligations.MarkPushesXAndP : Prop :=
  encode .mark = [0x79#8] ∧
  ∀ s : State, s.mem.wf → ∃ t, exec .mark s = .next t ∧
    t.t.toNat = 16 * s.x.toNat + s.p.toNat ∧ StoredAt (s.reg 2#4) t.t s t ∧ t.x = s.p ∧ Stepped 2#4 65535 s t ∧
    SameRegsBut [2#4] s t ∧ SameAcc s t ∧ t.p = s.p ∧ t.q = s.q ∧ t.ie = s.ie ∧ SameOutside s t

/-- R194, R195, R331: REQ clears and SEQ sets `Q`; `PortOut(0, q)` is emitted iff the value changed (decision D24, log
entry 21). -/
def Obligations.ReqAndSeqLatchQ : Prop :=
  ∀ q ∈ ([(.req, false), (.seq, true)] : List (Instr × Bool)), ∀ s : State, ∃ t, exec q.1 s = .next t ∧
    t.q = q.2 ∧ t.trace = (if s.q = q.2 then s.trace else s.trace ++ [.portOut 0#3 (if q.2 then 1#8 else 0#8)]) ∧
    t.keypadAnswers = s.keypadAnswers ∧ t.keypadQueries = s.keypadQueries ∧
    SameRegsBut [] s t ∧ SameMem s t ∧ SameAcc s t ∧ t.ie = s.ie ∧ t.t = s.t ∧ t.x = s.x ∧ t.p = s.p ∧
    SameFrame s t ∧ SameLatches s t

/-! ## Load, logic, arithmetic -/

/-- R210 to R213: LDX, OR, AND, XOR combine `D` bit by bit with the byte `R[X]` addresses; `DF` is unchanged. Which
opcode is which is decision D17 (log entry 19). -/
def Obligations.LoadAndLogicViaX : Prop :=
  ∀ q ∈ ([(.ldx, fun _ m => m), (.or, fun d m => d || m), (.and, fun d m => d && m), (.xor, fun d m => d != m)] :
      List (Instr × (Bool → Bool → Bool))),
    ∀ s : State, ∃ t, exec q.1 s = .next t ∧
      (∀ k : Nat, k < 8 → t.d.getLsbD k = q.2 (s.d.getLsbD k) ((s.memRead (s.reg s.x)).getLsbD k)) ∧
      t.df = s.df ∧ SameBut [] s t

/-- R214, R215: ADD and ADC, `D = (M + D + c) mod 256` and `DF = 1` iff the exact sum exceeds 255, with `c` 0 for ADD
and the old `DF` for ADC. Opcode values: decision D15 (log entry 19). -/
def Obligations.AddsViaX : Prop :=
  ∀ q ∈ ([(.add, fun _ => 0), (.adc, fun s => s.df.toNat)] : List (Instr × (State → Nat))),
    ∀ s : State, ∃ t, exec q.1 s = .next t ∧
      t.d.toNat = ((s.memRead (s.reg s.x)).toNat + s.d.toNat + q.2 s) % 256 ∧
      (t.df = true ↔ 255 < (s.memRead (s.reg s.x)).toNat + s.d.toNat + q.2 s) ∧ SameBut [] s t

/-- R216 to R219: SD and SDB subtract `D` from `M`, SM and SMB subtract `M` from `D`; with a borrow `c` (0 for SD and
SM, `1 - DF` for SDB and SMB) the result is the exact difference modulo 256 and `DF = 1` iff that difference is not
negative. Opcode values and operand orders: D15; the chained carry: D28 (log entries 18, 19). -/
def Obligations.SubtractsViaX : Prop :=
  ∀ q ∈ ([(.sd, fun s => ((s.memRead (s.reg s.x)).toNat : Int) - s.d.toNat),
      (.sdb, fun s => ((s.memRead (s.reg s.x)).toNat : Int) - s.d.toNat - (1 - s.df.toNat)),
      (.sm, fun s => (s.d.toNat : Int) - (s.memRead (s.reg s.x)).toNat),
      (.smb, fun s => (s.d.toNat : Int) - (s.memRead (s.reg s.x)).toNat - (1 - s.df.toNat))] :
      List (Instr × (State → Int))),
    ∀ s : State, ∃ t, exec q.1 s = .next t ∧
      (t.d.toNat : Int) = q.2 s % 256 ∧ (t.df = true ↔ 0 ≤ q.2 s) ∧ SameBut [] s t

/-- R220 to R223: SHR and SHL move one place and clear the vacated bit; SHRC and SHLC put the old `DF` there; the new
`DF` is the bit shifted out. Opcode values: decision D16 (log entry 19). -/
def Obligations.ShiftsAndRotates : Prop :=
  (∀ q ∈ ([(.shr, fun _ => 0), (.shrc, fun s => s.df.toNat)] : List (Instr × (State → Nat))),
    ∀ s : State, ∃ t, exec q.1 s = .next t ∧
      t.d.toNat = s.d.toNat / 2 + 128 * q.2 s ∧ (t.df = true ↔ s.d.toNat % 2 = 1) ∧ SameBut [] s t) ∧
  (∀ q ∈ ([(.shl, fun _ => 0), (.shlc, fun s => s.df.toNat)] : List (Instr × (State → Nat))),
    ∀ s : State, ∃ t, exec q.1 s = .next t ∧
      t.d.toNat = 2 * s.d.toNat % 256 + q.2 s ∧ (t.df = true ↔ 128 ≤ s.d.toNat) ∧ SameBut [] s t)

/-- R224: LDI is 0xF8 and the operand byte; `D` is that byte, `R[P]` moves past it, `DF` is unchanged. (The operand is
read by the decoder: log entry 9.) -/
def Obligations.LdiLoadsTheOperand : Prop :=
  ∀ b : Byte, encode (.ldi b) = [0xF8#8, b] ∧
    ∀ s : State, ∃ t, exec (.ldi b) s = .next t ∧ t.d = b ∧ t.df = s.df ∧ Stepped s.p 1 s t ∧ SameBut [s.p] s t

/-- R225 to R227: ORI, ANI, XRI combine `D` with the operand byte and move `R[P]` past it; `DF` is unchanged. Opcode
values: decision D17 (log entry 19). -/
def Obligations.LogicImmediates : Prop :=
  ∀ q ∈ ([(.ori, fun d m => d || m), (.ani, fun d m => d && m), (.xri, fun d m => d != m)] :
      List ((Byte → Instr) × (Bool → Bool → Bool))),
    ∀ (b : Byte) (s : State), ∃ t, exec (q.1 b) s = .next t ∧
      (∀ k : Nat, k < 8 → t.d.getLsbD k = q.2 (s.d.getLsbD k) (b.getLsbD k)) ∧
      t.df = s.df ∧ Stepped s.p 1 s t ∧ SameBut [s.p] s t

/-- R228, R229: ADI and ADCI, as ADD and ADC with the operand byte; `R[P]` moves past it. Opcode values: decision D15
(log entry 19). -/
def Obligations.AddImmediates : Prop :=
  ∀ q ∈ ([(.adi, fun _ => 0), (.adci, fun s => s.df.toNat)] : List ((Byte → Instr) × (State → Nat))),
    ∀ (b : Byte) (s : State), ∃ t, exec (q.1 b) s = .next t ∧
      t.d.toNat = (b.toNat + s.d.toNat + q.2 s) % 256 ∧
      (t.df = true ↔ 255 < b.toNat + s.d.toNat + q.2 s) ∧ Stepped s.p 1 s t ∧ SameBut [s.p] s t

/-- R230 to R233: SDI, SDBI, SMI, SMBI, as SD, SDB, SM, SMB with the operand byte; `R[P]` moves past it. Decisions D15,
D28 (log entries 18, 19). -/
def Obligations.SubtractImmediates : Prop :=
  ∀ q ∈ ([(.sdi, fun b s => (b.toNat : Int) - s.d.toNat),
      (.sdbi, fun b s => (b.toNat : Int) - s.d.toNat - (1 - s.df.toNat)),
      (.smi, fun b s => (s.d.toNat : Int) - b.toNat),
      (.smbi, fun b s => (s.d.toNat : Int) - b.toNat - (1 - s.df.toNat))] :
      List ((Byte → Instr) × (Byte → State → Int))),
    ∀ (b : Byte) (s : State), ∃ t, exec (q.1 b) s = .next t ∧
      (t.d.toNat : Int) = q.2 b s % 256 ∧ (t.df = true ↔ 0 ≤ q.2 b s) ∧ Stepped s.p 1 s t ∧ SameBut [s.p] s t

/-- R221, R223, their corner cases: SHLC undoes SHRC, SHRC undoes SHLC, and nine of either in a row restore the whole
state (opcode values: D16, log entry 19). -/
def Obligations.RotatesAreInverseAndOfOrderNine : Prop :=
  (∀ s t u : State, exec .shrc s = .next t → exec .shlc t = .next u → u = s) ∧
  (∀ s t u : State, exec .shlc s = .next t → exec .shrc t = .next u → u = s) ∧
  ∀ i ∈ [Instr.shrc, Instr.shlc], ∀ f : Nat → State,
    (∀ k, k < 9 → exec i (f k) = .next (f (k + 1))) → f 9 = f 0

/-! ## Register bytes and selectors -/

/-- R260, R261: GLO n is 0x8n and GHI n is 0x9n; `D` becomes the low or the high byte of `R[n]`. -/
def Obligations.GloAndGhiReadABytes : Prop :=
  CodedBy 0x8#4 Instr.gloRows ∧ EveryReg Instr.gloRows ∧ CodedBy 0x9#4 Instr.ghiRows ∧ EveryReg Instr.ghiRows ∧
  (∀ q ∈ Instr.gloRows, ∀ s : State, ∃ t, exec q.1 s = .next t ∧
    t.d.toNat = (s.reg q.2).toNat % 256 ∧ t.df = s.df ∧ SameBut [] s t) ∧
  (∀ q ∈ Instr.ghiRows, ∀ s : State, ∃ t, exec q.1 s = .next t ∧
    t.d.toNat = (s.reg q.2).toNat / 256 ∧ t.df = s.df ∧ SameBut [] s t)

/-- R262, R263: PLO n is 0xAn and PHI n is 0xBn; `D` replaces the low or the high byte of `R[n]` and the other byte is
kept; `D` is unchanged. -/
def Obligations.PloAndPhiWriteAByte : Prop :=
  CodedBy 0xA#4 Instr.ploRows ∧ EveryReg Instr.ploRows ∧ CodedBy 0xB#4 Instr.phiRows ∧ EveryReg Instr.phiRows ∧
  (∀ q ∈ Instr.ploRows, ∀ s : State, ∃ t, exec q.1 s = .next t ∧
    (t.reg q.2).toNat = (s.reg q.2).toNat / 256 * 256 + s.d.toNat ∧ SameAcc s t ∧ SameBut [q.2] s t) ∧
  (∀ q ∈ Instr.phiRows, ∀ s : State, ∃ t, exec q.1 s = .next t ∧
    (t.reg q.2).toNat = s.d.toNat * 256 + (s.reg q.2).toNat % 256 ∧ SameAcc s t ∧ SameBut [q.2] s t)

/-- R264: SEP n is 0xDn and sets `P`; every register keeps its value, the old program counter too, and `X` is unchanged. -/
def Obligations.SepSelectsTheProgramCounter : Prop :=
  CodedBy 0xD#4 Instr.sepRows ∧ EveryReg Instr.sepRows ∧
  ∀ q ∈ Instr.sepRows, ∀ s : State, ∃ t, exec q.1 s = .next t ∧
    t.p = q.2 ∧ t.pc = s.reg q.2 ∧ t.x = s.x ∧ t.q = s.q ∧ t.ie = s.ie ∧ t.t = s.t ∧ SameRegsBut [] s t ∧
    SameMem s t ∧ SameAcc s t ∧ SameOutside s t

/-- R265: SEX n is 0xEn and sets `X`; `P` and every register are unchanged. -/
def Obligations.SexSelectsTheDataPointer : Prop :=
  CodedBy 0xE#4 Instr.sexRows ∧ EveryReg Instr.sexRows ∧
  ∀ q ∈ Instr.sexRows, ∀ s : State, ∃ t, exec q.1 s = .next t ∧
    t.x = q.2 ∧ t.p = s.p ∧ t.q = s.q ∧ t.ie = s.ie ∧ t.t = s.t ∧ SameRegsBut [] s t ∧
    SameMem s t ∧ SameAcc s t ∧ SameOutside s t

/-! ## Long branches and skips -/

/-- R281 to R285, R291 to R293: a long branch takes its two operand bytes, and if its condition holds replaces all 16
bits of `R[P]` by the target; otherwise `R[P]` advances by 2. The conditions are decision D18 (log entry 19). -/
def Obligations.LongBranches : Prop :=
  ∀ q ∈ ([(.lbr, fun _ => true), (.lbq, fun s => s.q), (.lbz, fun s => decide (s.d.toNat = 0)), (.lbdf, fun s => s.df),
      (.lbnq, fun s => !s.q), (.lbnz, fun s => decide (s.d.toNat ≠ 0)), (.lbnf, fun s => !s.df)] :
      List ((Word → Instr) × (State → Bool))),
    ∀ (a : Word) (s : State), ∃ t, exec (q.1 a) s = .next t ∧
      (t.reg s.p).toNat = (if q.2 s then a.toNat else (s.pc.toNat + 2) % 65536) ∧ SameAcc s t ∧ SameBut [s.p] s t

/-- R281, R286 to R290, R294 to R297: a long skip adds 2 to `R[P]` if its condition holds and consumes nothing
otherwise; NOP is the skip that never happens and LSKP the one that always does. The conditions are decision D18
(log entry 19). -/
def Obligations.LongSkips : Prop :=
  ∀ q ∈ ([(.nop, fun _ => false), (.lsnq, fun s => !s.q), (.lsnz, fun s => decide (s.d.toNat ≠ 0)),
      (.lsnf, fun s => !s.df), (.lskp, fun _ => true), (.lsie, fun s => s.ie), (.lsq, fun s => s.q),
      (.lsz, fun s => decide (s.d.toNat = 0)), (.lsdf, fun s => s.df)] : List (Instr × (State → Bool))),
    ∀ s : State, ∃ t, exec q.1 s = .next t ∧
      Stepped s.p (if q.2 s then 2 else 0) s t ∧ SameAcc s t ∧ SameBut [s.p] s t

/-! ## Encoding -/

/-- R60, R61, R64, R66: decoding the bytes of an instruction, with anything after them, gives the instruction back with
every operand and leaves the rest. (The opcode assignments inside families are log entry 19.) -/
def Obligations.DecodeOfEncode : Prop :=
  ∀ (i : Instr) (rest : List Byte), decode (encode i ++ rest) = .ok (i, rest)

/-- R60, R66 (assignments inside families: log entry 19), the other direction: whatever bytes decode to an instruction
are that instruction's encoding and the rest, so no two byte strings of one length decode alike and every bit is
read. -/
def Obligations.EncodeOfDecode : Prop :=
  ∀ (bs rest : List Byte) (i : Instr), decode bs = .ok (i, rest) → bs = encode i ++ rest

/-- R60, R61, R67: a decoder is total. A byte list that holds the whole instruction of its opcode byte decodes, and the
bytes after the instruction are left; a list is refused iff it is empty or shorter than the length R61 gives its
opcode, by name. (Which of 0xC0 to 0xCF have operands is decision D18, log entry 19.) -/
def Obligations.EveryByteDecodes : Prop :=
  (∀ (op : Byte) (rest : List Byte), opcodeLength op ≤ rest.length + 1 →
    ∃ i, decode (op :: rest) = .ok (i, rest.drop (opcodeLength op - 1))) ∧
  ∀ (bs : List Byte) (e : DecodeError), decode bs = .error e ↔
    (bs = [] ∧ e = .noOpcode) ∨
      ∃ op rest, bs = op :: rest ∧ rest.length + 1 < opcodeLength op ∧ e = .missingOperand op

/-- R60, R64, R66 (assignments inside families: D7, D8, D14 to D18, log entry 19): the whole opcode map. Each of the 256
opcode bytes with its operand bytes is the encoding of the instruction the map gives it, and decodes to it, the long
branch's high byte first; then a few words written out bit by bit. -/
def Obligations.WrittenWordsDecode : Prop :=
  (∀ op : Byte, op ∈ plainCodes.map (·.1) ++ byteCodes.map (·.1) ++ wordCodes.map (·.1)) ∧
  (∀ q ∈ plainCodes, encode q.2 = [q.1] ∧ ∀ rest, decode (q.1 :: rest) = .ok (q.2, rest)) ∧
  (∀ q ∈ byteCodes, ∀ b, encode (q.2 b) = [q.1, b] ∧ ∀ rest, decode (q.1 :: b :: rest) = .ok (q.2 b, rest)) ∧
  (∀ q ∈ wordCodes, ∀ hi lo : Byte, encode (q.2 (hi ++ lo)) = [q.1, hi, lo] ∧
    ∀ rest, decode (q.1 :: hi :: lo :: rest) = .ok (q.2 (hi ++ lo), rest)) ∧
  decode [0b00000000#8] = .ok (.idl, []) ∧ decode [0b00000101#8] = .ok (.ldn5, []) ∧
  decode [0b00110010#8, 0x80#8] = .ok (.bz 0x80#8, []) ∧ decode [0b01100010#8] = .ok (.out2, []) ∧
  decode [0b01101001#8] = .ok (.inp1, []) ∧ decode [0b01111001#8] = .ok (.mark, []) ∧
  decode [0b10100001#8] = .ok (.plo1, []) ∧ decode [0b11000001#8, 0x06#8, 0x80#8] = .ok (.lbq 0x0680#16, []) ∧
  decode [0b11001000#8, 0xAA#8, 0xBB#8] = .ok (.lskp, [0xAA#8, 0xBB#8]) ∧
  decode [0b11010011#8] = .ok (.sep3, []) ∧ decode [0b11111000#8, 0x12#8] = .ok (.ldi 0x12#8, [])

/-- R68, R69: an assembler line assembles iff it is well formed, a port line's byte holds the port number in `op[2:0]`
(decision D14, log entry 19), and a register line's byte holds the register number in `op[3:0]` (mnemonics and
syntax are labels: D29, log entry 29). -/
def Obligations.WellFormedLinesAssemble : Prop :=
  (∀ l : Asm, l.wellFormed = true ↔ ∃ i, l.instr? = some i) ∧
  (∀ (m : RegMnemonic) (n : Nat) (i : Instr), (Asm.reg m n).instr? = some i →
    ∃ op, encode i = [op] ∧ op.toNat % 16 = n) ∧
  ∀ (m : PortMnemonic) (p : Nat) (i : Instr), (Asm.port m p).instr? = some i →
    ∃ op, encode i = [op] ∧ op.toNat % 8 = p

/-! ## The step and the frame FSM -/

/-- R80 to R84: a step runs the instruction the bytes at `R[P]` decode to. `R[P]` is advanced past the opcode and 2
cycles are charged before it (EXTRA_CYCLES is 0: D2, log entry 6); after it, one phase transition if `Cycles` is
negative, else the signal is `none`. -/
def Obligations.StepRunsTheDecodedInstruction : Prop :=
  ∀ (s : State) (i : Instr) (rest : List Byte),
    decode [s.memRead s.pc, s.memRead (s.pc + 1#16), s.memRead (s.pc + 2#16)] = .ok (i, rest) →
    ∀ t, exec i ((s.setPc (s.pc + 1#16)).setCycles (s.cycles - 2)) = .next t →
      step s = .next (if t.cycles < 0 then t.phaseTransition else t.setSignal .none)

/-- R89, R310, R340: every step from every state yields a next state (log entry 26). -/
def Obligations.EveryStepHasANextState : Prop := ∀ s : State, ∃ t, step s = .next t

/-- R82, R84, R319: every step takes 2 cycles; if `Cycles` stays at 0 or above the signal is `none` and the phase stays;
if it would go below, the other phase is entered with its whole budget and its signal is returned (D2, D4: log
entries 6, 7). -/
def Obligations.EveryStepTakesTwoCycles : Prop :=
  ∀ s t : State, step s = .next t →
    (2 ≤ s.cycles → t.cycles = s.cycles - 2 ∧ t.phase = s.phase ∧ t.signal = .none) ∧
    (s.cycles < 2 → s.phase = .activeDisplay →
      t.cycles = (s.config.budgetPrelim : Int) ∧ t.phase = .interruptPreliminary ∧ t.signal = .activeDisplayEnded) ∧
    (s.cycles < 2 → s.phase = .interruptPreliminary →
      t.cycles = (s.config.budgetActive : Int) ∧ t.phase = .activeDisplay ∧ t.signal = .interruptPreliminaryEnded)

/-- R84, its last sentence (D2, D4: log entries 6, 7): whatever instructions run, a phase with `Cycles = c` left lasts
`floor(c / 2) + 1` steps, the last of which returns the non-`none` signal. -/
def Obligations.APhaseLastsHalfItsCyclesPlusOne : Prop :=
  ∀ (s : State) (c : Nat), s.cycles = (c : Int) →
    (∀ k, 1 ≤ k → k < phaseSteps c → ∃ t, runSteps k s = .next t ∧ t.signal = .none ∧ t.phase = s.phase ∧
      t.cycles = (c : Int) - 2 * k) ∧
    ∃ t, runSteps (phaseSteps c) s = .next t ∧ t.phase ≠ s.phase ∧
      t.signal = (if s.phase = .activeDisplay then .activeDisplayEnded else .interruptPreliminaryEnded) ∧
      t.cycles = (if s.phase = .activeDisplay then (s.config.budgetPrelim : Int) else (s.config.budgetActive : Int))

/-- R320 (D2, D4: log entries 6, 7): from the start of an `ActiveDisplay` phase, for all budgets and whatever
instructions run, the signals repeat with period `N_A + N_P`: `activeDisplayEnded` at step `N_A`,
`interruptPreliminaryEnded` at step `N_A + N_P`, `none` at every other. -/
def Obligations.FramesRepeatWithAFixedPeriod : Prop :=
  ∀ s : State, s.phase = .activeDisplay → s.cycles = (s.config.budgetActive : Int) →
    ∀ m k : Nat, 1 ≤ k → k ≤ phaseSteps s.config.budgetActive + phaseSteps s.config.budgetPrelim →
      ∃ t, runSteps (m * (phaseSteps s.config.budgetActive + phaseSteps s.config.budgetPrelim) + k) s = .next t ∧
        t.signal =
          if k = phaseSteps s.config.budgetActive then .activeDisplayEnded
          else if k = phaseSteps s.config.budgetActive + phaseSteps s.config.budgetPrelim
            then .interruptPreliminaryEnded
          else .none

/-- R313 (with R316; decisions D4, D19, D21: log entries 7, 14, 15): leaving `ActiveDisplay`. The smaller budget is
assigned. Display off: only the FSM changes. Display on: a 0x00 byte at `R[P]` is stepped over, then the interrupt
is taken if `IE = 1`. -/
def Obligations.LeavingActiveDisplay : Prop :=
  ∀ u : State, u.phase = .activeDisplay → u.cycles < 0 →
    u.boundary.phase = .interruptPreliminary ∧ u.boundary.cycles = (u.config.budgetPrelim : Int) ∧
    u.boundary.signal = .activeDisplayEnded ∧ SameMem u u.boundary ∧ SameAcc u u.boundary ∧ u.boundary.q = u.q ∧
    SameLatches u u.boundary ∧ SameIO u u.boundary ∧ u.boundary.screenBase = u.screenBase ∧
    u.boundary.scrollOffset = u.scrollOffset ∧
    (u.displayEnabled = false → SameRegsBut [] u u.boundary ∧ SameControl u u.boundary) ∧
    (u.displayEnabled = true →
      SameRegsBut [u.p] u u.boundary ∧ Stepped u.p (if u.memRead u.pc = 0x00#8 then 1 else 0) u u.boundary ∧
      (u.ie = true → u.boundary.t.toNat = 16 * u.x.toNat + u.p.toNat ∧ u.boundary.p = 1#4 ∧ u.boundary.x = 2#4 ∧
        u.boundary.ie = false) ∧
      (u.ie = false → SameControl u u.boundary))

/-- R314, R315, R329 (window formula: D22, log entry 20): leaving `InterruptPreliminary` reloads the larger budget by
assignment (D4, log entry 7), latches the window from `R[0]`, emits `FrameSync()` (at each such transition: D35, log
entry 24), and changes no CPU register. -/
def Obligations.LeavingInterruptPreliminary : Prop :=
  ∀ u : State, u.phase = .interruptPreliminary → u.cycles < 0 →
    u.boundary.phase = .activeDisplay ∧ u.boundary.cycles = (u.config.budgetActive : Int) ∧
    u.boundary.signal = .interruptPreliminaryEnded ∧
    u.boundary.screenBase.toNat = (u.reg 0#4).toNat / 256 % 16 * 256 ∧
    u.boundary.scrollOffset.toNat = (u.reg 0#4).toNat % 256 ∧ u.boundary.trace = u.trace ++ [.frameSync] ∧
    SameRegsBut [] u u.boundary ∧ SameMem u u.boundary ∧ SameAcc u u.boundary ∧ SameControl u u.boundary ∧
    SameLatches u u.boundary

/-- R21, R342: the screen window the host reads changes only in a step that ends an `InterruptPreliminary` phase, and
then is that of `R[0]` as the step left it (formula: D22, log entry 20); `getScreenBase()` is `none` iff the display
is disabled at the query. -/
def Obligations.TheScreenWindowIsLatchedOncePerFrame : Prop :=
  ∀ s t : State, step s = .next t →
    (t.signal ≠ .interruptPreliminaryEnded → t.screenBase = s.screenBase ∧ t.getScrollOffset = s.getScrollOffset) ∧
    (t.signal = .interruptPreliminaryEnded → t.getScrollOffset.toNat = (t.reg 0#4).toNat % 256 ∧
      ∃ pre, t.trace = pre ++ [.frameSync]) ∧
    (t.getScreenBase = none ↔ t.displayEnabled = false) ∧
    (∀ base, t.getScreenBase = some base → t.signal = .interruptPreliminaryEnded →
      base.toNat = (t.reg 0#4).toNat / 256 % 16 * 256)

/-! ## The interrupt -/

/-- R316 (decision D19, log entry 14): interrupt entry. -/
def Obligations.InterruptEntry : Prop :=
  ∀ s : State,
    (s.ie = true → s.interrupt.t.toNat = 16 * s.x.toNat + s.p.toNat ∧ s.interrupt.p = 1#4 ∧ s.interrupt.x = 2#4 ∧
      s.interrupt.ie = false ∧ s.interrupt.q = s.q ∧ SameRegsBut [] s s.interrupt ∧ SameMem s s.interrupt ∧
      SameAcc s s.interrupt ∧ SameOutside s s.interrupt) ∧
    (s.ie = false → s.interrupt = s)

/-- R317, R318 (decision D19, log entry 14): interrupts are disabled in a step only by DIS or by the interrupt, and the
interrupt is taken only in a step that ends an `ActiveDisplay` phase with the display enabled. -/
def Obligations.InterruptsComeOnlyAtTheEndOfActiveDisplay : Prop :=
  ∀ s t : State, step s = .next t → s.ie = true → t.ie = false →
    s.nextInstr = .dis ∨
      (s.phase = .activeDisplay ∧ s.cycles < 2 ∧ t.signal = .activeDisplayEnded ∧ t.displayEnabled = true ∧
        t.p = 1#4 ∧ t.x = 2#4)

/-- R321 (decisions D19, D20: log entries 13, 14): after interrupt entry, DEC 2, SAV and RET give the interrupted
program its `X`, `P`, `IE` and every register back, if the stack cell is RAM. -/
def Obligations.AHandlerReturnsToTheInterruptedProgram : Prop :=
  ∀ s : State, s.mem.wf → s.ie = true → isRam (a12 (s.reg 2#4 - 1#16).toNat) = true →
    ∃ a b c, exec .dec2 s.interrupt = .next a ∧ exec .sav a = .next b ∧ exec .ret b = .next c ∧
      c.x = s.x ∧ c.p = s.p ∧ c.ie = true ∧ c.q = s.q ∧ SameRegsBut [] s c ∧ SameAcc s c ∧ SameOutside s c ∧
      SameMemBut (s.reg 2#4 - 1#16) s c

/-- R193, its corner case (RET's pointer: D20, log entry 13): MARK, INC 2 and RET or DIS restore the marked `X` and `P`,
if the marked cell is RAM. -/
def Obligations.MarkThenReturnRestoresXAndP : Prop :=
  ∀ q ∈ ([(.ret, true), (.dis, false)] : List (Instr × Bool)), ∀ s : State, s.mem.wf →
    isRam (a12 (s.reg 2#4).toNat) = true →
    ∃ a b c, exec .mark s = .next a ∧ exec .inc2 a = .next b ∧ exec q.1 b = .next c ∧
      c.x = s.x ∧ c.p = s.p ∧ c.ie = q.2 ∧ Stepped 2#4 1 s c ∧ SameRegsBut [2#4] s c ∧ SameAcc s c ∧
      SameMemBut (s.reg 2#4) s c

/-! ## Whole-machine rules -/

/-- R19, R25: every step keeps the invariant: memory stays canonical and `0 <= Cycles <= max` of the budgets. -/
def Obligations.EveryStepKeepsTheInvariant : Prop := ∀ s t : State, s.Inv → step s = .next t → t.Inv

/-- R19, R28: the invariant holds after reset, for every choice of the parameters and every canonical `MEM_INIT`. -/
def Obligations.ResetMeetsTheInvariant : Prop :=
  State.reset.Inv ∧ ∀ (cfg : Config) (m : Memory), m.wf → (State.start cfg m).Inv

/-- R49, R50, R52, R350: what the host does between steps keeps the invariant too. -/
def Obligations.HostActionsKeepTheInvariant : Prop :=
  ∀ (s t : State) (a : HostAction), a ≠ .execute → s.Inv → s.act a = .next t → t.Inv

/-- R25, R43: no step changes a byte outside 0x800 to 0x9FF, whatever it runs. -/
def Obligations.TheImageIsReadOnly : Prop :=
  ∀ (s t : State) (a : Word), step s = .next t →
    ¬(0x800 ≤ a.toNat % 4096 ∧ a.toNat % 4096 ≤ 0x9FF) → t.memRead a = s.memRead a

/-- R58: STR, INP, STXD, SAV and MARK are the only instructions that write memory. (That 0x69 to 0x6F are INP is
decision D14, log entry 19.) -/
def Obligations.OnlyStoresWriteMemory : Prop :=
  ∀ (i : Instr) (s t : State), exec i s = .next t →
    ¬OpcodeIn [0x50#8, 0x51#8, 0x52#8, 0x53#8, 0x54#8, 0x55#8, 0x56#8, 0x57#8, 0x58#8, 0x59#8, 0x5A#8, 0x5B#8, 0x5C#8,
      0x5D#8, 0x5E#8, 0x5F#8, 0x69#8, 0x6A#8, 0x6B#8, 0x6C#8, 0x6D#8, 0x6E#8, 0x6F#8, 0x73#8, 0x78#8, 0x79#8] i →
    SameMem s t

/-- R14 to R18, R22, R23, R30, the column "written by": `DF`, `Q`, `IE`, `T`, `X`, `P`, `DisplayEnabled` and `KeySel`
are each unchanged by every instruction that the table does not name as a writer (decisions D20, D23, D27: log
entries 13, 16). Which opcodes are the writers of `DF` rests on decisions D15 to D17 (log entry 19), and that 0x61,
0x62 and 0x69 are OUT 1, OUT 2 and INP 1 on D14 (log entry 19). -/
def Obligations.EachControlElementHasItsWriters : Prop :=
  ∀ (i : Instr) (s t : State), exec i s = .next t →
    (¬OpcodeIn [0x74#8, 0x75#8, 0x76#8, 0x77#8, 0x7C#8, 0x7D#8, 0x7E#8, 0x7F#8, 0xF4#8, 0xF5#8, 0xF6#8, 0xF7#8,
        0xFC#8, 0xFD#8, 0xFE#8, 0xFF#8] i → t.df = s.df) ∧
    (i ≠ .req → i ≠ .seq → t.q = s.q) ∧ (i ≠ .ret → i ≠ .dis → t.ie = s.ie) ∧ (i ≠ .mark → t.t = s.t) ∧
    ((∀ q ∈ Instr.sexRows, i ≠ q.1) → i ≠ .mark → i ≠ .ret → i ≠ .dis → t.x = s.x) ∧
    ((∀ q ∈ Instr.sepRows, i ≠ q.1) → i ≠ .ret → i ≠ .dis → t.p = s.p) ∧
    (i ≠ .out1 → i ≠ .inp1 → t.displayEnabled = s.displayEnabled) ∧ (i ≠ .out2 → t.keySel = s.keySel)

/-- R19, R20, R21: no instruction writes `Cycles`, `Phase` or the screen window, and none reads them: with other values
there, every instruction answers the same next state but for them. -/
def Obligations.NoInstructionSeesTheFrame : Prop :=
  ∀ (i : Instr) (s t : State) (c : Int) (ph : Phase) (base : Addr12) (scroll : Byte) (sig : PhaseSignal),
    exec i s = .next t → SameFrame s t ∧
      exec i (s.retimed c ph base scroll sig) = .next (t.retimed c ph base scroll sig)

/-- R41: an address is masked to 12 bits before every access: reads and writes through registers that differ in bits 15
to 12 are the same, and so are the host's through any address. -/
def Obligations.AddressesAreMaskedToTwelveBits : Prop :=
  ∀ (s : State) (a : Word) (k n : Nat) (v : Byte),
    s.memRead (a + BitVec.ofNat 16 (0x1000 * k)) = s.memRead a ∧
    s.memWrite (a + BitVec.ofNat 16 (0x1000 * k)) v = s.memWrite a v ∧
    s.readMemory (n + 0x1000 * k) = s.readMemory n ∧ s.writeMemory (n + 0x1000 * k) v = s.writeMemory n v ∧
    s.readMemory a.toNat = s.memRead a

/-! ## Reset and the host -/

/-- R28, R350 (the values of the window and of `KeySel`: D22, D27, log entry 22; `BUDGET_ACTIVE`: log entry 2): what
`reset()` leaves, and that it leaves memory alone (D25, log entry 25) and emits nothing (D24, D35: log entries 21,
24). `getProgramCounter()` is 16 bits by D38 (log entry 28). -/
def Obligations.ResetValues : Prop :=
  ∀ s : State,
    (∀ n, s.hostReset.reg n = 0#16) ∧ s.hostReset.d = 0#8 ∧ s.hostReset.df = false ∧ s.hostReset.q = false ∧
    s.hostReset.t = 0#8 ∧ s.hostReset.x = 0#4 ∧ s.hostReset.p = 0#4 ∧ s.hostReset.ie = true ∧
    s.hostReset.phase = .activeDisplay ∧ s.hostReset.cycles = (s.config.budgetActive : Int) ∧
    s.hostReset.displayEnabled = false ∧ s.hostReset.getScreenBase = none ∧ s.hostReset.screenBase = 0#12 ∧
    s.hostReset.scrollOffset = 0#8 ∧ s.hostReset.keySel = 0#4 ∧ SameMem s s.hostReset ∧ SameIO s s.hostReset ∧
    s.hostReset.getProgramCounter = 0#16

/-- R49 (with R48; decision D38, log entry 28): `writeMemory` has the guard of an instruction's write: a cell of 0x800
to 0x9FF then reads as the byte written, a cell outside keeps its byte, and every other cell and everything else is
as before. -/
def Obligations.HostWritesAreGuarded : Prop :=
  ∀ (s : State) (a : Nat) (v : Byte), s.mem.wf →
    (s.writeMemory a v).readMemory a =
      (if 0x800 ≤ a % 4096 ∧ a % 4096 ≤ 0x9FF then v else s.readMemory a) ∧
    (∀ b, b % 4096 ≠ a % 4096 → (s.writeMemory a v).readMemory b = s.readMemory b) ∧
    (s.writeMemory a v).snapshot = s.snapshot ∧ SameOutside s (s.writeMemory a v)

/-- R50 (decision D26, log entry 23): `loadImage` puts byte `k` at `A12(base + k)` unless that cell is in the protected
range, where the byte is skipped, and touches no other cell. -/
def Obligations.LoadImageFillsTheImage : Prop :=
  ∀ (s : State) (bytes : List Byte) (base : Nat), s.mem.wf → bytes.length ≤ 4096 →
    (∀ k, ∀ h : k < bytes.length, (s.loadImage bytes base).readMemory (base + k) =
      if 0x800 ≤ (base + k) % 4096 ∧ (base + k) % 4096 < 0xA00 then s.readMemory (base + k) else bytes[k]) ∧
    ∀ a, (∀ k, k < bytes.length → (base + k) % 4096 ≠ a % 4096) →
      (s.loadImage bytes base).readMemory a = s.readMemory a
end

