-- ==== Sys2Proof/Laws/Memory.lean ====
section
/-! SUPPORT. Memory: read after write, and the canonical form, which every memory operation keeps and which makes
equal memories equal data. -/

namespace Sys2Proof.Machine.Memory

/-- No entry of `m` lies at or below `a`. -/
def above (a : Nat) (m : Memory) : Prop := ∀ c ∈ m, a < c.1

theorem read_above {m : Memory} {a : Nat} (h : above a m) : m.read a = unlisted := by
  induction m with
  | nil => rfl
  | cons c rest ih =>
    have hc : a < c.1 := h c (by simp)
    simp only [read, if_neg (Nat.ne_of_gt hc)]
    exact ih (fun e he => h e (by simp [he]))

theorem wf_tail {c : Host.Cell} {rest : Memory} (h : wf (c :: rest)) : wf rest :=
  ⟨(List.pairwise_cons.mp h.1).2, fun e he => h.2 e (by simp [he])⟩

theorem wf_above {c : Host.Cell} {rest : Memory} (h : wf (c :: rest)) : above c.1 rest :=
  (List.pairwise_cons.mp h.1).1

theorem wf_cons {c : Host.Cell} {rest : Memory} (hr : wf rest) (ha : above c.1 rest) (hc : c.1 < 4096)
    (hv : c.2 ≠ unlisted) : wf (c :: rest) :=
  ⟨List.pairwise_cons.mpr ⟨ha, hr.1⟩, by
    intro e he
    rcases List.mem_cons.mp he with rfl | he
    · exact ⟨hc, hv⟩
    · exact hr.2 e he⟩

/-- Every entry of `m.write a v` is an entry of `m` or is at `a`. -/
theorem mem_write {m : Memory} {a : Nat} {v : Byte} {e : Host.Cell} (h : e ∈ m.write a v) : e ∈ m ∨ e.1 = a := by
  induction m with
  | nil =>
    simp only [write] at h
    split at h <;> simp_all
  | cons c rest ih =>
    simp only [write] at h
    split at h
    · split at h <;> simp_all
      rcases h with rfl | h <;> simp_all
    · split at h
      · split at h <;> simp_all
        rcases h with rfl | h <;> simp_all
      · rcases List.mem_cons.mp h with rfl | h
        · simp
        · rcases ih h with h | h
          · simp [h]
          · exact .inr h

/-- A write keeps the canonical form. -/
theorem write_wf {m : Memory} {a : Nat} (h : m.wf) (ha : a < 4096) (v : Byte) : (m.write a v).wf := by
  induction m with
  | nil =>
    simp only [write]
    split
    · exact h
    · rename_i hv
      exact wf_cons h (fun e he => by simp at he) ha hv
  | cons c rest ih =>
    have hr := wf_tail h
    have hab := wf_above h
    simp only [write]
    split
    · rename_i hlt
      split
      · exact h
      · rename_i hv
        refine wf_cons h (fun e he => ?_) ha hv
        rcases List.mem_cons.mp he with rfl | he
        · exact hlt
        · exact Nat.lt_trans hlt (hab e he)
    · split
      · rename_i heq
        split
        · exact hr
        · rename_i hv
          exact wf_cons hr (by rw [heq]; exact hab) ha hv
      · rename_i hlt hne
        have hc := h.2 c (by simp)
        refine wf_cons (ih hr) (fun e he => ?_) hc.1 hc.2
        rcases mem_write he with he | he
        · exact hab e he
        · omega

/-- A read of the cell just written. -/
theorem read_write_same {m : Memory} (h : m.wf) (a : Nat) (v : Byte) : (m.write a v).read a = v := by
  induction m with
  | nil =>
    simp only [write]
    split <;> simp_all [read]
  | cons c rest ih =>
    have hab := wf_above h
    simp only [write]
    split
    · rename_i hlt
      split
      · rename_i hv
        rw [hv]
        apply read_above
        intro e he
        rcases List.mem_cons.mp he with rfl | he
        · exact hlt
        · exact Nat.lt_trans hlt (hab e he)
      · simp [read]
    · split
      · rename_i heq
        split
        · rename_i hv
          rw [hv, heq]
          exact read_above hab
        · simp [read]
      · rename_i hne
        have hca : ¬c.1 = a := fun hc => hne hc.symm
        simp only [read, if_neg hca]
        exact ih (wf_tail h)

/-- A read of any other cell. -/
theorem read_write_other (m : Memory) {a b : Nat} (hne : b ≠ a) (v : Byte) : (m.write a v).read b = m.read b := by
  induction m with
  | nil =>
    simp only [write]
    split
    · rfl
    · simp [read, Ne.symm hne]
  | cons c rest ih =>
    simp only [write]
    split
    · split
      · rfl
      · simp [read, Ne.symm hne]
    · split
      · rename_i heq
        split
        · simp [read, ← heq, Ne.symm hne]
        · simp [read, ← heq, Ne.symm hne]
      · simp only [read, ih]

/-- A well-formed memory that reads as unlisted everywhere lists nothing. -/
theorem eq_nil_of_read {m : Memory} (h : m.wf) (hr : ∀ a, m.read a = unlisted) : m = [] := by
  cases m with
  | nil => rfl
  | cons c rest =>
    have := hr c.1
    simp only [read, if_true] at this
    exact absurd this (h.2 c (by simp)).2

/-- Equal memories are equal data: the canonical form is determined by what every cell reads as. -/
theorem ext_of_read {m n : Memory} (hm : m.wf) (hn : n.wf) (h : ∀ a, m.read a = n.read a) : m = n := by
  induction m generalizing n with
  | nil => exact (eq_nil_of_read hn (fun a => (h a).symm)).symm
  | cons c rest ih =>
    cases n with
    | nil => exact eq_nil_of_read hm h
    | cons e rest' =>
      have hc := (hm.2 c (by simp)).2
      have he := (hn.2 e (by simp)).2
      have key : c.1 = e.1 := by
        rcases Nat.lt_trichotomy c.1 e.1 with hlt | heq | hgt
        · have h1 := h c.1
          have h2 : read (e :: rest') c.1 = unlisted := read_above (fun f hf => by
            rcases List.mem_cons.mp hf with rfl | hf
            · exact hlt
            · exact Nat.lt_trans hlt (wf_above hn f hf))
          rw [h2] at h1
          simp only [read, if_true] at h1
          exact absurd h1 hc
        · exact heq
        · have h1 := h e.1
          have h2 : read (c :: rest) e.1 = unlisted := read_above (fun f hf => by
            rcases List.mem_cons.mp hf with rfl | hf
            · exact hgt
            · exact Nat.lt_trans hgt (wf_above hm f hf))
          rw [h2] at h1
          simp only [read, if_true] at h1
          exact absurd h1.symm he
      have hval : c.2 = e.2 := by simpa [read, key] using h c.1
      have hrest : rest = rest' := by
        refine ih (wf_tail hm) (wf_tail hn) (fun a => ?_)
        by_cases ha : c.1 = a
        · subst ha
          rw [read_above (wf_above hm), read_above (key ▸ wf_above hn)]
        · have := h a
          simpa [read, ha, key ▸ ha] using this
      rw [hrest, Prod.ext key hval]

theorem a12_lt (a : Nat) : a12 a < 4096 := Nat.mod_lt _ (by decide)

/-- Placing bytes keeps the canonical form. -/
theorem placeBytes_wf (bs : List Byte) : ∀ {m : Memory} (a : Word), m.wf → (placeBytes m a bs).wf := by
  induction bs with
  | nil => intro m a h; exact h
  | cons b rest ih => intro m a h; exact ih _ (write_wf h (a12_lt _) b)

/-- Loading an image keeps the canonical form. -/
theorem loadBytes_wf (bs : List Byte) : ∀ {m : Memory} (a : Nat), m.wf → (loadBytes m a bs).wf := by
  induction bs with
  | nil => intro m a h; exact h
  | cons b rest ih =>
    intro m a h
    refine ih _ ?_
    split
    · exact h
    · exact write_wf h (a12_lt _) b

end Sys2Proof.Machine.Memory
end

