-- ==== Sys2Proof/Laws/State.lean ====
section
/-! SUPPORT. One lemma per field per update of the state, and what a register read and a memory read see of an update
that does not touch them; all true by unfolding. -/

namespace Sys2Proof.Machine.State

@[simp] theorem setReg_d (s : State) (n : RegNo) (v : Word) : (s.setReg n v).d = s.d := rfl
@[simp] theorem setReg_df (s : State) (n : RegNo) (v : Word) : (s.setReg n v).df = s.df := rfl
@[simp] theorem setReg_q (s : State) (n : RegNo) (v : Word) : (s.setReg n v).q = s.q := rfl
@[simp] theorem setReg_ie (s : State) (n : RegNo) (v : Word) : (s.setReg n v).ie = s.ie := rfl
@[simp] theorem setReg_t (s : State) (n : RegNo) (v : Word) : (s.setReg n v).t = s.t := rfl
@[simp] theorem setReg_x (s : State) (n : RegNo) (v : Word) : (s.setReg n v).x = s.x := rfl
@[simp] theorem setReg_p (s : State) (n : RegNo) (v : Word) : (s.setReg n v).p = s.p := rfl
@[simp] theorem setReg_cycles (s : State) (n : RegNo) (v : Word) : (s.setReg n v).cycles = s.cycles := rfl
@[simp] theorem setReg_phase (s : State) (n : RegNo) (v : Word) : (s.setReg n v).phase = s.phase := rfl
@[simp] theorem setReg_screenBase (s : State) (n : RegNo) (v : Word) : (s.setReg n v).screenBase = s.screenBase := rfl
@[simp] theorem setReg_scrollOffset (s : State) (n : RegNo) (v : Word) : (s.setReg n v).scrollOffset = s.scrollOffset := rfl
@[simp] theorem setReg_displayEnabled (s : State) (n : RegNo) (v : Word) : (s.setReg n v).displayEnabled = s.displayEnabled := rfl
@[simp] theorem setReg_keySel (s : State) (n : RegNo) (v : Word) : (s.setReg n v).keySel = s.keySel := rfl
@[simp] theorem setReg_mem (s : State) (n : RegNo) (v : Word) : (s.setReg n v).mem = s.mem := rfl
@[simp] theorem setReg_config (s : State) (n : RegNo) (v : Word) : (s.setReg n v).config = s.config := rfl
@[simp] theorem setReg_trace (s : State) (n : RegNo) (v : Word) : (s.setReg n v).trace = s.trace := rfl
@[simp] theorem setReg_signal (s : State) (n : RegNo) (v : Word) : (s.setReg n v).signal = s.signal := rfl
@[simp] theorem setReg_keypadAnswers (s : State) (n : RegNo) (v : Word) : (s.setReg n v).keypadAnswers = s.keypadAnswers := rfl
@[simp] theorem setReg_keypadQueries (s : State) (n : RegNo) (v : Word) : (s.setReg n v).keypadQueries = s.keypadQueries := rfl
@[simp] theorem setReg_memRead (s : State) (n : RegNo) (v : Word) (w : Word) : (s.setReg n v).memRead w = s.memRead w := rfl

@[simp] theorem setPc_d (s : State) (v : Word) : (s.setPc v).d = s.d := rfl
@[simp] theorem setPc_df (s : State) (v : Word) : (s.setPc v).df = s.df := rfl
@[simp] theorem setPc_q (s : State) (v : Word) : (s.setPc v).q = s.q := rfl
@[simp] theorem setPc_ie (s : State) (v : Word) : (s.setPc v).ie = s.ie := rfl
@[simp] theorem setPc_t (s : State) (v : Word) : (s.setPc v).t = s.t := rfl
@[simp] theorem setPc_x (s : State) (v : Word) : (s.setPc v).x = s.x := rfl
@[simp] theorem setPc_p (s : State) (v : Word) : (s.setPc v).p = s.p := rfl
@[simp] theorem setPc_cycles (s : State) (v : Word) : (s.setPc v).cycles = s.cycles := rfl
@[simp] theorem setPc_phase (s : State) (v : Word) : (s.setPc v).phase = s.phase := rfl
@[simp] theorem setPc_screenBase (s : State) (v : Word) : (s.setPc v).screenBase = s.screenBase := rfl
@[simp] theorem setPc_scrollOffset (s : State) (v : Word) : (s.setPc v).scrollOffset = s.scrollOffset := rfl
@[simp] theorem setPc_displayEnabled (s : State) (v : Word) : (s.setPc v).displayEnabled = s.displayEnabled := rfl
@[simp] theorem setPc_keySel (s : State) (v : Word) : (s.setPc v).keySel = s.keySel := rfl
@[simp] theorem setPc_mem (s : State) (v : Word) : (s.setPc v).mem = s.mem := rfl
@[simp] theorem setPc_config (s : State) (v : Word) : (s.setPc v).config = s.config := rfl
@[simp] theorem setPc_trace (s : State) (v : Word) : (s.setPc v).trace = s.trace := rfl
@[simp] theorem setPc_signal (s : State) (v : Word) : (s.setPc v).signal = s.signal := rfl
@[simp] theorem setPc_keypadAnswers (s : State) (v : Word) : (s.setPc v).keypadAnswers = s.keypadAnswers := rfl
@[simp] theorem setPc_keypadQueries (s : State) (v : Word) : (s.setPc v).keypadQueries = s.keypadQueries := rfl
@[simp] theorem setPc_memRead (s : State) (v : Word) (w : Word) : (s.setPc v).memRead w = s.memRead w := rfl

@[simp] theorem setD_r (s : State) (v : Byte) : (s.setD v).r = s.r := rfl
@[simp] theorem setD_d (s : State) (v : Byte) : (s.setD v).d = v := rfl
@[simp] theorem setD_df (s : State) (v : Byte) : (s.setD v).df = s.df := rfl
@[simp] theorem setD_q (s : State) (v : Byte) : (s.setD v).q = s.q := rfl
@[simp] theorem setD_ie (s : State) (v : Byte) : (s.setD v).ie = s.ie := rfl
@[simp] theorem setD_t (s : State) (v : Byte) : (s.setD v).t = s.t := rfl
@[simp] theorem setD_x (s : State) (v : Byte) : (s.setD v).x = s.x := rfl
@[simp] theorem setD_p (s : State) (v : Byte) : (s.setD v).p = s.p := rfl
@[simp] theorem setD_cycles (s : State) (v : Byte) : (s.setD v).cycles = s.cycles := rfl
@[simp] theorem setD_phase (s : State) (v : Byte) : (s.setD v).phase = s.phase := rfl
@[simp] theorem setD_screenBase (s : State) (v : Byte) : (s.setD v).screenBase = s.screenBase := rfl
@[simp] theorem setD_scrollOffset (s : State) (v : Byte) : (s.setD v).scrollOffset = s.scrollOffset := rfl
@[simp] theorem setD_displayEnabled (s : State) (v : Byte) : (s.setD v).displayEnabled = s.displayEnabled := rfl
@[simp] theorem setD_keySel (s : State) (v : Byte) : (s.setD v).keySel = s.keySel := rfl
@[simp] theorem setD_mem (s : State) (v : Byte) : (s.setD v).mem = s.mem := rfl
@[simp] theorem setD_config (s : State) (v : Byte) : (s.setD v).config = s.config := rfl
@[simp] theorem setD_trace (s : State) (v : Byte) : (s.setD v).trace = s.trace := rfl
@[simp] theorem setD_signal (s : State) (v : Byte) : (s.setD v).signal = s.signal := rfl
@[simp] theorem setD_keypadAnswers (s : State) (v : Byte) : (s.setD v).keypadAnswers = s.keypadAnswers := rfl
@[simp] theorem setD_keypadQueries (s : State) (v : Byte) : (s.setD v).keypadQueries = s.keypadQueries := rfl
@[simp] theorem setD_reg (s : State) (v : Byte) (m : RegNo) : (s.setD v).reg m = s.reg m := rfl
@[simp] theorem setD_memRead (s : State) (v : Byte) (w : Word) : (s.setD v).memRead w = s.memRead w := rfl
@[simp] theorem setD_pc (s : State) (v : Byte) : (s.setD v).pc = s.pc := rfl
@[simp] theorem setD_dataPtr (s : State) (v : Byte) : (s.setD v).dataPtr = s.dataPtr := rfl

@[simp] theorem setArith_r (s : State) (v : Byte × Bool) : (s.setArith v).r = s.r := rfl
@[simp] theorem setArith_d (s : State) (v : Byte × Bool) : (s.setArith v).d = v.1 := rfl
@[simp] theorem setArith_df (s : State) (v : Byte × Bool) : (s.setArith v).df = v.2 := rfl
@[simp] theorem setArith_q (s : State) (v : Byte × Bool) : (s.setArith v).q = s.q := rfl
@[simp] theorem setArith_ie (s : State) (v : Byte × Bool) : (s.setArith v).ie = s.ie := rfl
@[simp] theorem setArith_t (s : State) (v : Byte × Bool) : (s.setArith v).t = s.t := rfl
@[simp] theorem setArith_x (s : State) (v : Byte × Bool) : (s.setArith v).x = s.x := rfl
@[simp] theorem setArith_p (s : State) (v : Byte × Bool) : (s.setArith v).p = s.p := rfl
@[simp] theorem setArith_cycles (s : State) (v : Byte × Bool) : (s.setArith v).cycles = s.cycles := rfl
@[simp] theorem setArith_phase (s : State) (v : Byte × Bool) : (s.setArith v).phase = s.phase := rfl
@[simp] theorem setArith_screenBase (s : State) (v : Byte × Bool) : (s.setArith v).screenBase = s.screenBase := rfl
@[simp] theorem setArith_scrollOffset (s : State) (v : Byte × Bool) : (s.setArith v).scrollOffset = s.scrollOffset := rfl
@[simp] theorem setArith_displayEnabled (s : State) (v : Byte × Bool) : (s.setArith v).displayEnabled = s.displayEnabled := rfl
@[simp] theorem setArith_keySel (s : State) (v : Byte × Bool) : (s.setArith v).keySel = s.keySel := rfl
@[simp] theorem setArith_mem (s : State) (v : Byte × Bool) : (s.setArith v).mem = s.mem := rfl
@[simp] theorem setArith_config (s : State) (v : Byte × Bool) : (s.setArith v).config = s.config := rfl
@[simp] theorem setArith_trace (s : State) (v : Byte × Bool) : (s.setArith v).trace = s.trace := rfl
@[simp] theorem setArith_signal (s : State) (v : Byte × Bool) : (s.setArith v).signal = s.signal := rfl
@[simp] theorem setArith_keypadAnswers (s : State) (v : Byte × Bool) : (s.setArith v).keypadAnswers = s.keypadAnswers := rfl
@[simp] theorem setArith_keypadQueries (s : State) (v : Byte × Bool) : (s.setArith v).keypadQueries = s.keypadQueries := rfl
@[simp] theorem setArith_reg (s : State) (v : Byte × Bool) (m : RegNo) : (s.setArith v).reg m = s.reg m := rfl
@[simp] theorem setArith_memRead (s : State) (v : Byte × Bool) (w : Word) : (s.setArith v).memRead w = s.memRead w := rfl
@[simp] theorem setArith_pc (s : State) (v : Byte × Bool) : (s.setArith v).pc = s.pc := rfl
@[simp] theorem setArith_dataPtr (s : State) (v : Byte × Bool) : (s.setArith v).dataPtr = s.dataPtr := rfl

@[simp] theorem setQ_r (s : State) (v : Bool) : (s.setQ v).r = s.r := rfl
@[simp] theorem setQ_d (s : State) (v : Bool) : (s.setQ v).d = s.d := rfl
@[simp] theorem setQ_df (s : State) (v : Bool) : (s.setQ v).df = s.df := rfl
@[simp] theorem setQ_q (s : State) (v : Bool) : (s.setQ v).q = v := rfl
@[simp] theorem setQ_ie (s : State) (v : Bool) : (s.setQ v).ie = s.ie := rfl
@[simp] theorem setQ_t (s : State) (v : Bool) : (s.setQ v).t = s.t := rfl
@[simp] theorem setQ_x (s : State) (v : Bool) : (s.setQ v).x = s.x := rfl
@[simp] theorem setQ_p (s : State) (v : Bool) : (s.setQ v).p = s.p := rfl
@[simp] theorem setQ_cycles (s : State) (v : Bool) : (s.setQ v).cycles = s.cycles := rfl
@[simp] theorem setQ_phase (s : State) (v : Bool) : (s.setQ v).phase = s.phase := rfl
@[simp] theorem setQ_screenBase (s : State) (v : Bool) : (s.setQ v).screenBase = s.screenBase := rfl
@[simp] theorem setQ_scrollOffset (s : State) (v : Bool) : (s.setQ v).scrollOffset = s.scrollOffset := rfl
@[simp] theorem setQ_displayEnabled (s : State) (v : Bool) : (s.setQ v).displayEnabled = s.displayEnabled := rfl
@[simp] theorem setQ_keySel (s : State) (v : Bool) : (s.setQ v).keySel = s.keySel := rfl
@[simp] theorem setQ_mem (s : State) (v : Bool) : (s.setQ v).mem = s.mem := rfl
@[simp] theorem setQ_config (s : State) (v : Bool) : (s.setQ v).config = s.config := rfl
@[simp] theorem setQ_trace (s : State) (v : Bool) : (s.setQ v).trace = s.trace := rfl
@[simp] theorem setQ_signal (s : State) (v : Bool) : (s.setQ v).signal = s.signal := rfl
@[simp] theorem setQ_keypadAnswers (s : State) (v : Bool) : (s.setQ v).keypadAnswers = s.keypadAnswers := rfl
@[simp] theorem setQ_keypadQueries (s : State) (v : Bool) : (s.setQ v).keypadQueries = s.keypadQueries := rfl
@[simp] theorem setQ_reg (s : State) (v : Bool) (m : RegNo) : (s.setQ v).reg m = s.reg m := rfl
@[simp] theorem setQ_memRead (s : State) (v : Bool) (w : Word) : (s.setQ v).memRead w = s.memRead w := rfl
@[simp] theorem setQ_pc (s : State) (v : Bool) : (s.setQ v).pc = s.pc := rfl
@[simp] theorem setQ_dataPtr (s : State) (v : Bool) : (s.setQ v).dataPtr = s.dataPtr := rfl

@[simp] theorem setIE_r (s : State) (v : Bool) : (s.setIE v).r = s.r := rfl
@[simp] theorem setIE_d (s : State) (v : Bool) : (s.setIE v).d = s.d := rfl
@[simp] theorem setIE_df (s : State) (v : Bool) : (s.setIE v).df = s.df := rfl
@[simp] theorem setIE_q (s : State) (v : Bool) : (s.setIE v).q = s.q := rfl
@[simp] theorem setIE_ie (s : State) (v : Bool) : (s.setIE v).ie = v := rfl
@[simp] theorem setIE_t (s : State) (v : Bool) : (s.setIE v).t = s.t := rfl
@[simp] theorem setIE_x (s : State) (v : Bool) : (s.setIE v).x = s.x := rfl
@[simp] theorem setIE_p (s : State) (v : Bool) : (s.setIE v).p = s.p := rfl
@[simp] theorem setIE_cycles (s : State) (v : Bool) : (s.setIE v).cycles = s.cycles := rfl
@[simp] theorem setIE_phase (s : State) (v : Bool) : (s.setIE v).phase = s.phase := rfl
@[simp] theorem setIE_screenBase (s : State) (v : Bool) : (s.setIE v).screenBase = s.screenBase := rfl
@[simp] theorem setIE_scrollOffset (s : State) (v : Bool) : (s.setIE v).scrollOffset = s.scrollOffset := rfl
@[simp] theorem setIE_displayEnabled (s : State) (v : Bool) : (s.setIE v).displayEnabled = s.displayEnabled := rfl
@[simp] theorem setIE_keySel (s : State) (v : Bool) : (s.setIE v).keySel = s.keySel := rfl
@[simp] theorem setIE_mem (s : State) (v : Bool) : (s.setIE v).mem = s.mem := rfl
@[simp] theorem setIE_config (s : State) (v : Bool) : (s.setIE v).config = s.config := rfl
@[simp] theorem setIE_trace (s : State) (v : Bool) : (s.setIE v).trace = s.trace := rfl
@[simp] theorem setIE_signal (s : State) (v : Bool) : (s.setIE v).signal = s.signal := rfl
@[simp] theorem setIE_keypadAnswers (s : State) (v : Bool) : (s.setIE v).keypadAnswers = s.keypadAnswers := rfl
@[simp] theorem setIE_keypadQueries (s : State) (v : Bool) : (s.setIE v).keypadQueries = s.keypadQueries := rfl
@[simp] theorem setIE_reg (s : State) (v : Bool) (m : RegNo) : (s.setIE v).reg m = s.reg m := rfl
@[simp] theorem setIE_memRead (s : State) (v : Bool) (w : Word) : (s.setIE v).memRead w = s.memRead w := rfl
@[simp] theorem setIE_pc (s : State) (v : Bool) : (s.setIE v).pc = s.pc := rfl
@[simp] theorem setIE_dataPtr (s : State) (v : Bool) : (s.setIE v).dataPtr = s.dataPtr := rfl

@[simp] theorem setT_r (s : State) (v : Byte) : (s.setT v).r = s.r := rfl
@[simp] theorem setT_d (s : State) (v : Byte) : (s.setT v).d = s.d := rfl
@[simp] theorem setT_df (s : State) (v : Byte) : (s.setT v).df = s.df := rfl
@[simp] theorem setT_q (s : State) (v : Byte) : (s.setT v).q = s.q := rfl
@[simp] theorem setT_ie (s : State) (v : Byte) : (s.setT v).ie = s.ie := rfl
@[simp] theorem setT_t (s : State) (v : Byte) : (s.setT v).t = v := rfl
@[simp] theorem setT_x (s : State) (v : Byte) : (s.setT v).x = s.x := rfl
@[simp] theorem setT_p (s : State) (v : Byte) : (s.setT v).p = s.p := rfl
@[simp] theorem setT_cycles (s : State) (v : Byte) : (s.setT v).cycles = s.cycles := rfl
@[simp] theorem setT_phase (s : State) (v : Byte) : (s.setT v).phase = s.phase := rfl
@[simp] theorem setT_screenBase (s : State) (v : Byte) : (s.setT v).screenBase = s.screenBase := rfl
@[simp] theorem setT_scrollOffset (s : State) (v : Byte) : (s.setT v).scrollOffset = s.scrollOffset := rfl
@[simp] theorem setT_displayEnabled (s : State) (v : Byte) : (s.setT v).displayEnabled = s.displayEnabled := rfl
@[simp] theorem setT_keySel (s : State) (v : Byte) : (s.setT v).keySel = s.keySel := rfl
@[simp] theorem setT_mem (s : State) (v : Byte) : (s.setT v).mem = s.mem := rfl
@[simp] theorem setT_config (s : State) (v : Byte) : (s.setT v).config = s.config := rfl
@[simp] theorem setT_trace (s : State) (v : Byte) : (s.setT v).trace = s.trace := rfl
@[simp] theorem setT_signal (s : State) (v : Byte) : (s.setT v).signal = s.signal := rfl
@[simp] theorem setT_keypadAnswers (s : State) (v : Byte) : (s.setT v).keypadAnswers = s.keypadAnswers := rfl
@[simp] theorem setT_keypadQueries (s : State) (v : Byte) : (s.setT v).keypadQueries = s.keypadQueries := rfl
@[simp] theorem setT_reg (s : State) (v : Byte) (m : RegNo) : (s.setT v).reg m = s.reg m := rfl
@[simp] theorem setT_memRead (s : State) (v : Byte) (w : Word) : (s.setT v).memRead w = s.memRead w := rfl
@[simp] theorem setT_pc (s : State) (v : Byte) : (s.setT v).pc = s.pc := rfl
@[simp] theorem setT_dataPtr (s : State) (v : Byte) : (s.setT v).dataPtr = s.dataPtr := rfl

@[simp] theorem setX_r (s : State) (n : RegNo) : (s.setX n).r = s.r := rfl
@[simp] theorem setX_d (s : State) (n : RegNo) : (s.setX n).d = s.d := rfl
@[simp] theorem setX_df (s : State) (n : RegNo) : (s.setX n).df = s.df := rfl
@[simp] theorem setX_q (s : State) (n : RegNo) : (s.setX n).q = s.q := rfl
@[simp] theorem setX_ie (s : State) (n : RegNo) : (s.setX n).ie = s.ie := rfl
@[simp] theorem setX_t (s : State) (n : RegNo) : (s.setX n).t = s.t := rfl
@[simp] theorem setX_x (s : State) (n : RegNo) : (s.setX n).x = n := rfl
@[simp] theorem setX_p (s : State) (n : RegNo) : (s.setX n).p = s.p := rfl
@[simp] theorem setX_cycles (s : State) (n : RegNo) : (s.setX n).cycles = s.cycles := rfl
@[simp] theorem setX_phase (s : State) (n : RegNo) : (s.setX n).phase = s.phase := rfl
@[simp] theorem setX_screenBase (s : State) (n : RegNo) : (s.setX n).screenBase = s.screenBase := rfl
@[simp] theorem setX_scrollOffset (s : State) (n : RegNo) : (s.setX n).scrollOffset = s.scrollOffset := rfl
@[simp] theorem setX_displayEnabled (s : State) (n : RegNo) : (s.setX n).displayEnabled = s.displayEnabled := rfl
@[simp] theorem setX_keySel (s : State) (n : RegNo) : (s.setX n).keySel = s.keySel := rfl
@[simp] theorem setX_mem (s : State) (n : RegNo) : (s.setX n).mem = s.mem := rfl
@[simp] theorem setX_config (s : State) (n : RegNo) : (s.setX n).config = s.config := rfl
@[simp] theorem setX_trace (s : State) (n : RegNo) : (s.setX n).trace = s.trace := rfl
@[simp] theorem setX_signal (s : State) (n : RegNo) : (s.setX n).signal = s.signal := rfl
@[simp] theorem setX_keypadAnswers (s : State) (n : RegNo) : (s.setX n).keypadAnswers = s.keypadAnswers := rfl
@[simp] theorem setX_keypadQueries (s : State) (n : RegNo) : (s.setX n).keypadQueries = s.keypadQueries := rfl
@[simp] theorem setX_reg (s : State) (n : RegNo) (m : RegNo) : (s.setX n).reg m = s.reg m := rfl
@[simp] theorem setX_memRead (s : State) (n : RegNo) (w : Word) : (s.setX n).memRead w = s.memRead w := rfl
@[simp] theorem setX_pc (s : State) (n : RegNo) : (s.setX n).pc = s.pc := rfl

@[simp] theorem setP_r (s : State) (n : RegNo) : (s.setP n).r = s.r := rfl
@[simp] theorem setP_d (s : State) (n : RegNo) : (s.setP n).d = s.d := rfl
@[simp] theorem setP_df (s : State) (n : RegNo) : (s.setP n).df = s.df := rfl
@[simp] theorem setP_q (s : State) (n : RegNo) : (s.setP n).q = s.q := rfl
@[simp] theorem setP_ie (s : State) (n : RegNo) : (s.setP n).ie = s.ie := rfl
@[simp] theorem setP_t (s : State) (n : RegNo) : (s.setP n).t = s.t := rfl
@[simp] theorem setP_x (s : State) (n : RegNo) : (s.setP n).x = s.x := rfl
@[simp] theorem setP_p (s : State) (n : RegNo) : (s.setP n).p = n := rfl
@[simp] theorem setP_cycles (s : State) (n : RegNo) : (s.setP n).cycles = s.cycles := rfl
@[simp] theorem setP_phase (s : State) (n : RegNo) : (s.setP n).phase = s.phase := rfl
@[simp] theorem setP_screenBase (s : State) (n : RegNo) : (s.setP n).screenBase = s.screenBase := rfl
@[simp] theorem setP_scrollOffset (s : State) (n : RegNo) : (s.setP n).scrollOffset = s.scrollOffset := rfl
@[simp] theorem setP_displayEnabled (s : State) (n : RegNo) : (s.setP n).displayEnabled = s.displayEnabled := rfl
@[simp] theorem setP_keySel (s : State) (n : RegNo) : (s.setP n).keySel = s.keySel := rfl
@[simp] theorem setP_mem (s : State) (n : RegNo) : (s.setP n).mem = s.mem := rfl
@[simp] theorem setP_config (s : State) (n : RegNo) : (s.setP n).config = s.config := rfl
@[simp] theorem setP_trace (s : State) (n : RegNo) : (s.setP n).trace = s.trace := rfl
@[simp] theorem setP_signal (s : State) (n : RegNo) : (s.setP n).signal = s.signal := rfl
@[simp] theorem setP_keypadAnswers (s : State) (n : RegNo) : (s.setP n).keypadAnswers = s.keypadAnswers := rfl
@[simp] theorem setP_keypadQueries (s : State) (n : RegNo) : (s.setP n).keypadQueries = s.keypadQueries := rfl
@[simp] theorem setP_reg (s : State) (n : RegNo) (m : RegNo) : (s.setP n).reg m = s.reg m := rfl
@[simp] theorem setP_memRead (s : State) (n : RegNo) (w : Word) : (s.setP n).memRead w = s.memRead w := rfl
@[simp] theorem setP_dataPtr (s : State) (n : RegNo) : (s.setP n).dataPtr = s.dataPtr := rfl

@[simp] theorem setDisplay_r (s : State) (v : Bool) : (s.setDisplay v).r = s.r := rfl
@[simp] theorem setDisplay_d (s : State) (v : Bool) : (s.setDisplay v).d = s.d := rfl
@[simp] theorem setDisplay_df (s : State) (v : Bool) : (s.setDisplay v).df = s.df := rfl
@[simp] theorem setDisplay_q (s : State) (v : Bool) : (s.setDisplay v).q = s.q := rfl
@[simp] theorem setDisplay_ie (s : State) (v : Bool) : (s.setDisplay v).ie = s.ie := rfl
@[simp] theorem setDisplay_t (s : State) (v : Bool) : (s.setDisplay v).t = s.t := rfl
@[simp] theorem setDisplay_x (s : State) (v : Bool) : (s.setDisplay v).x = s.x := rfl
@[simp] theorem setDisplay_p (s : State) (v : Bool) : (s.setDisplay v).p = s.p := rfl
@[simp] theorem setDisplay_cycles (s : State) (v : Bool) : (s.setDisplay v).cycles = s.cycles := rfl
@[simp] theorem setDisplay_phase (s : State) (v : Bool) : (s.setDisplay v).phase = s.phase := rfl
@[simp] theorem setDisplay_screenBase (s : State) (v : Bool) : (s.setDisplay v).screenBase = s.screenBase := rfl
@[simp] theorem setDisplay_scrollOffset (s : State) (v : Bool) : (s.setDisplay v).scrollOffset = s.scrollOffset := rfl
@[simp] theorem setDisplay_displayEnabled (s : State) (v : Bool) : (s.setDisplay v).displayEnabled = v := rfl
@[simp] theorem setDisplay_keySel (s : State) (v : Bool) : (s.setDisplay v).keySel = s.keySel := rfl
@[simp] theorem setDisplay_mem (s : State) (v : Bool) : (s.setDisplay v).mem = s.mem := rfl
@[simp] theorem setDisplay_config (s : State) (v : Bool) : (s.setDisplay v).config = s.config := rfl
@[simp] theorem setDisplay_trace (s : State) (v : Bool) : (s.setDisplay v).trace = s.trace := rfl
@[simp] theorem setDisplay_signal (s : State) (v : Bool) : (s.setDisplay v).signal = s.signal := rfl
@[simp] theorem setDisplay_keypadAnswers (s : State) (v : Bool) : (s.setDisplay v).keypadAnswers = s.keypadAnswers := rfl
@[simp] theorem setDisplay_keypadQueries (s : State) (v : Bool) : (s.setDisplay v).keypadQueries = s.keypadQueries := rfl
@[simp] theorem setDisplay_reg (s : State) (v : Bool) (m : RegNo) : (s.setDisplay v).reg m = s.reg m := rfl
@[simp] theorem setDisplay_memRead (s : State) (v : Bool) (w : Word) : (s.setDisplay v).memRead w = s.memRead w := rfl
@[simp] theorem setDisplay_pc (s : State) (v : Bool) : (s.setDisplay v).pc = s.pc := rfl
@[simp] theorem setDisplay_dataPtr (s : State) (v : Bool) : (s.setDisplay v).dataPtr = s.dataPtr := rfl

@[simp] theorem setKeySel_r (s : State) (v : BitVec 4) : (s.setKeySel v).r = s.r := rfl
@[simp] theorem setKeySel_d (s : State) (v : BitVec 4) : (s.setKeySel v).d = s.d := rfl
@[simp] theorem setKeySel_df (s : State) (v : BitVec 4) : (s.setKeySel v).df = s.df := rfl
@[simp] theorem setKeySel_q (s : State) (v : BitVec 4) : (s.setKeySel v).q = s.q := rfl
@[simp] theorem setKeySel_ie (s : State) (v : BitVec 4) : (s.setKeySel v).ie = s.ie := rfl
@[simp] theorem setKeySel_t (s : State) (v : BitVec 4) : (s.setKeySel v).t = s.t := rfl
@[simp] theorem setKeySel_x (s : State) (v : BitVec 4) : (s.setKeySel v).x = s.x := rfl
@[simp] theorem setKeySel_p (s : State) (v : BitVec 4) : (s.setKeySel v).p = s.p := rfl
@[simp] theorem setKeySel_cycles (s : State) (v : BitVec 4) : (s.setKeySel v).cycles = s.cycles := rfl
@[simp] theorem setKeySel_phase (s : State) (v : BitVec 4) : (s.setKeySel v).phase = s.phase := rfl
@[simp] theorem setKeySel_screenBase (s : State) (v : BitVec 4) : (s.setKeySel v).screenBase = s.screenBase := rfl
@[simp] theorem setKeySel_scrollOffset (s : State) (v : BitVec 4) : (s.setKeySel v).scrollOffset = s.scrollOffset := rfl
@[simp] theorem setKeySel_displayEnabled (s : State) (v : BitVec 4) : (s.setKeySel v).displayEnabled = s.displayEnabled := rfl
@[simp] theorem setKeySel_keySel (s : State) (v : BitVec 4) : (s.setKeySel v).keySel = v := rfl
@[simp] theorem setKeySel_mem (s : State) (v : BitVec 4) : (s.setKeySel v).mem = s.mem := rfl
@[simp] theorem setKeySel_config (s : State) (v : BitVec 4) : (s.setKeySel v).config = s.config := rfl
@[simp] theorem setKeySel_trace (s : State) (v : BitVec 4) : (s.setKeySel v).trace = s.trace := rfl
@[simp] theorem setKeySel_signal (s : State) (v : BitVec 4) : (s.setKeySel v).signal = s.signal := rfl
@[simp] theorem setKeySel_keypadAnswers (s : State) (v : BitVec 4) : (s.setKeySel v).keypadAnswers = s.keypadAnswers := rfl
@[simp] theorem setKeySel_keypadQueries (s : State) (v : BitVec 4) : (s.setKeySel v).keypadQueries = s.keypadQueries := rfl
@[simp] theorem setKeySel_reg (s : State) (v : BitVec 4) (m : RegNo) : (s.setKeySel v).reg m = s.reg m := rfl
@[simp] theorem setKeySel_memRead (s : State) (v : BitVec 4) (w : Word) : (s.setKeySel v).memRead w = s.memRead w := rfl
@[simp] theorem setKeySel_pc (s : State) (v : BitVec 4) : (s.setKeySel v).pc = s.pc := rfl
@[simp] theorem setKeySel_dataPtr (s : State) (v : BitVec 4) : (s.setKeySel v).dataPtr = s.dataPtr := rfl

@[simp] theorem emit_r (s : State) (e : Event) : (s.emit e).r = s.r := rfl
@[simp] theorem emit_d (s : State) (e : Event) : (s.emit e).d = s.d := rfl
@[simp] theorem emit_df (s : State) (e : Event) : (s.emit e).df = s.df := rfl
@[simp] theorem emit_q (s : State) (e : Event) : (s.emit e).q = s.q := rfl
@[simp] theorem emit_ie (s : State) (e : Event) : (s.emit e).ie = s.ie := rfl
@[simp] theorem emit_t (s : State) (e : Event) : (s.emit e).t = s.t := rfl
@[simp] theorem emit_x (s : State) (e : Event) : (s.emit e).x = s.x := rfl
@[simp] theorem emit_p (s : State) (e : Event) : (s.emit e).p = s.p := rfl
@[simp] theorem emit_cycles (s : State) (e : Event) : (s.emit e).cycles = s.cycles := rfl
@[simp] theorem emit_phase (s : State) (e : Event) : (s.emit e).phase = s.phase := rfl
@[simp] theorem emit_screenBase (s : State) (e : Event) : (s.emit e).screenBase = s.screenBase := rfl
@[simp] theorem emit_scrollOffset (s : State) (e : Event) : (s.emit e).scrollOffset = s.scrollOffset := rfl
@[simp] theorem emit_displayEnabled (s : State) (e : Event) : (s.emit e).displayEnabled = s.displayEnabled := rfl
@[simp] theorem emit_keySel (s : State) (e : Event) : (s.emit e).keySel = s.keySel := rfl
@[simp] theorem emit_mem (s : State) (e : Event) : (s.emit e).mem = s.mem := rfl
@[simp] theorem emit_config (s : State) (e : Event) : (s.emit e).config = s.config := rfl
@[simp] theorem emit_trace (s : State) (e : Event) : (s.emit e).trace = s.trace ++ [e] := rfl
@[simp] theorem emit_signal (s : State) (e : Event) : (s.emit e).signal = s.signal := rfl
@[simp] theorem emit_keypadAnswers (s : State) (e : Event) : (s.emit e).keypadAnswers = s.keypadAnswers := rfl
@[simp] theorem emit_keypadQueries (s : State) (e : Event) : (s.emit e).keypadQueries = s.keypadQueries := rfl
@[simp] theorem emit_reg (s : State) (e : Event) (m : RegNo) : (s.emit e).reg m = s.reg m := rfl
@[simp] theorem emit_memRead (s : State) (e : Event) (w : Word) : (s.emit e).memRead w = s.memRead w := rfl
@[simp] theorem emit_pc (s : State) (e : Event) : (s.emit e).pc = s.pc := rfl
@[simp] theorem emit_dataPtr (s : State) (e : Event) : (s.emit e).dataPtr = s.dataPtr := rfl

@[simp] theorem setCycles_r (s : State) (c : Int) : (s.setCycles c).r = s.r := rfl
@[simp] theorem setCycles_d (s : State) (c : Int) : (s.setCycles c).d = s.d := rfl
@[simp] theorem setCycles_df (s : State) (c : Int) : (s.setCycles c).df = s.df := rfl
@[simp] theorem setCycles_q (s : State) (c : Int) : (s.setCycles c).q = s.q := rfl
@[simp] theorem setCycles_ie (s : State) (c : Int) : (s.setCycles c).ie = s.ie := rfl
@[simp] theorem setCycles_t (s : State) (c : Int) : (s.setCycles c).t = s.t := rfl
@[simp] theorem setCycles_x (s : State) (c : Int) : (s.setCycles c).x = s.x := rfl
@[simp] theorem setCycles_p (s : State) (c : Int) : (s.setCycles c).p = s.p := rfl
@[simp] theorem setCycles_cycles (s : State) (c : Int) : (s.setCycles c).cycles = c := rfl
@[simp] theorem setCycles_phase (s : State) (c : Int) : (s.setCycles c).phase = s.phase := rfl
@[simp] theorem setCycles_screenBase (s : State) (c : Int) : (s.setCycles c).screenBase = s.screenBase := rfl
@[simp] theorem setCycles_scrollOffset (s : State) (c : Int) : (s.setCycles c).scrollOffset = s.scrollOffset := rfl
@[simp] theorem setCycles_displayEnabled (s : State) (c : Int) : (s.setCycles c).displayEnabled = s.displayEnabled := rfl
@[simp] theorem setCycles_keySel (s : State) (c : Int) : (s.setCycles c).keySel = s.keySel := rfl
@[simp] theorem setCycles_mem (s : State) (c : Int) : (s.setCycles c).mem = s.mem := rfl
@[simp] theorem setCycles_config (s : State) (c : Int) : (s.setCycles c).config = s.config := rfl
@[simp] theorem setCycles_trace (s : State) (c : Int) : (s.setCycles c).trace = s.trace := rfl
@[simp] theorem setCycles_signal (s : State) (c : Int) : (s.setCycles c).signal = s.signal := rfl
@[simp] theorem setCycles_keypadAnswers (s : State) (c : Int) : (s.setCycles c).keypadAnswers = s.keypadAnswers := rfl
@[simp] theorem setCycles_keypadQueries (s : State) (c : Int) : (s.setCycles c).keypadQueries = s.keypadQueries := rfl
@[simp] theorem setCycles_reg (s : State) (c : Int) (m : RegNo) : (s.setCycles c).reg m = s.reg m := rfl
@[simp] theorem setCycles_memRead (s : State) (c : Int) (w : Word) : (s.setCycles c).memRead w = s.memRead w := rfl
@[simp] theorem setCycles_pc (s : State) (c : Int) : (s.setCycles c).pc = s.pc := rfl
@[simp] theorem setCycles_dataPtr (s : State) (c : Int) : (s.setCycles c).dataPtr = s.dataPtr := rfl

@[simp] theorem enterPhase_r (s : State) (ph : Phase) (b : Nat) (sg : PhaseSignal) : (s.enterPhase ph b sg).r = s.r := rfl
@[simp] theorem enterPhase_d (s : State) (ph : Phase) (b : Nat) (sg : PhaseSignal) : (s.enterPhase ph b sg).d = s.d := rfl
@[simp] theorem enterPhase_df (s : State) (ph : Phase) (b : Nat) (sg : PhaseSignal) : (s.enterPhase ph b sg).df = s.df := rfl
@[simp] theorem enterPhase_q (s : State) (ph : Phase) (b : Nat) (sg : PhaseSignal) : (s.enterPhase ph b sg).q = s.q := rfl
@[simp] theorem enterPhase_ie (s : State) (ph : Phase) (b : Nat) (sg : PhaseSignal) : (s.enterPhase ph b sg).ie = s.ie := rfl
@[simp] theorem enterPhase_t (s : State) (ph : Phase) (b : Nat) (sg : PhaseSignal) : (s.enterPhase ph b sg).t = s.t := rfl
@[simp] theorem enterPhase_x (s : State) (ph : Phase) (b : Nat) (sg : PhaseSignal) : (s.enterPhase ph b sg).x = s.x := rfl
@[simp] theorem enterPhase_p (s : State) (ph : Phase) (b : Nat) (sg : PhaseSignal) : (s.enterPhase ph b sg).p = s.p := rfl
@[simp] theorem enterPhase_cycles (s : State) (ph : Phase) (b : Nat) (sg : PhaseSignal) : (s.enterPhase ph b sg).cycles = (b : Int) := rfl
@[simp] theorem enterPhase_phase (s : State) (ph : Phase) (b : Nat) (sg : PhaseSignal) : (s.enterPhase ph b sg).phase = ph := rfl
@[simp] theorem enterPhase_screenBase (s : State) (ph : Phase) (b : Nat) (sg : PhaseSignal) : (s.enterPhase ph b sg).screenBase = s.screenBase := rfl
@[simp] theorem enterPhase_scrollOffset (s : State) (ph : Phase) (b : Nat) (sg : PhaseSignal) : (s.enterPhase ph b sg).scrollOffset = s.scrollOffset := rfl
@[simp] theorem enterPhase_displayEnabled (s : State) (ph : Phase) (b : Nat) (sg : PhaseSignal) : (s.enterPhase ph b sg).displayEnabled = s.displayEnabled := rfl
@[simp] theorem enterPhase_keySel (s : State) (ph : Phase) (b : Nat) (sg : PhaseSignal) : (s.enterPhase ph b sg).keySel = s.keySel := rfl
@[simp] theorem enterPhase_mem (s : State) (ph : Phase) (b : Nat) (sg : PhaseSignal) : (s.enterPhase ph b sg).mem = s.mem := rfl
@[simp] theorem enterPhase_config (s : State) (ph : Phase) (b : Nat) (sg : PhaseSignal) : (s.enterPhase ph b sg).config = s.config := rfl
@[simp] theorem enterPhase_trace (s : State) (ph : Phase) (b : Nat) (sg : PhaseSignal) : (s.enterPhase ph b sg).trace = s.trace := rfl
@[simp] theorem enterPhase_signal (s : State) (ph : Phase) (b : Nat) (sg : PhaseSignal) : (s.enterPhase ph b sg).signal = sg := rfl
@[simp] theorem enterPhase_keypadAnswers (s : State) (ph : Phase) (b : Nat) (sg : PhaseSignal) : (s.enterPhase ph b sg).keypadAnswers = s.keypadAnswers := rfl
@[simp] theorem enterPhase_keypadQueries (s : State) (ph : Phase) (b : Nat) (sg : PhaseSignal) : (s.enterPhase ph b sg).keypadQueries = s.keypadQueries := rfl
@[simp] theorem enterPhase_reg (s : State) (ph : Phase) (b : Nat) (sg : PhaseSignal) (m : RegNo) : (s.enterPhase ph b sg).reg m = s.reg m := rfl
@[simp] theorem enterPhase_memRead (s : State) (ph : Phase) (b : Nat) (sg : PhaseSignal) (w : Word) : (s.enterPhase ph b sg).memRead w = s.memRead w := rfl
@[simp] theorem enterPhase_pc (s : State) (ph : Phase) (b : Nat) (sg : PhaseSignal) : (s.enterPhase ph b sg).pc = s.pc := rfl
@[simp] theorem enterPhase_dataPtr (s : State) (ph : Phase) (b : Nat) (sg : PhaseSignal) : (s.enterPhase ph b sg).dataPtr = s.dataPtr := rfl

@[simp] theorem setSignal_r (s : State) (sg : PhaseSignal) : (s.setSignal sg).r = s.r := rfl
@[simp] theorem setSignal_d (s : State) (sg : PhaseSignal) : (s.setSignal sg).d = s.d := rfl
@[simp] theorem setSignal_df (s : State) (sg : PhaseSignal) : (s.setSignal sg).df = s.df := rfl
@[simp] theorem setSignal_q (s : State) (sg : PhaseSignal) : (s.setSignal sg).q = s.q := rfl
@[simp] theorem setSignal_ie (s : State) (sg : PhaseSignal) : (s.setSignal sg).ie = s.ie := rfl
@[simp] theorem setSignal_t (s : State) (sg : PhaseSignal) : (s.setSignal sg).t = s.t := rfl
@[simp] theorem setSignal_x (s : State) (sg : PhaseSignal) : (s.setSignal sg).x = s.x := rfl
@[simp] theorem setSignal_p (s : State) (sg : PhaseSignal) : (s.setSignal sg).p = s.p := rfl
@[simp] theorem setSignal_cycles (s : State) (sg : PhaseSignal) : (s.setSignal sg).cycles = s.cycles := rfl
@[simp] theorem setSignal_phase (s : State) (sg : PhaseSignal) : (s.setSignal sg).phase = s.phase := rfl
@[simp] theorem setSignal_screenBase (s : State) (sg : PhaseSignal) : (s.setSignal sg).screenBase = s.screenBase := rfl
@[simp] theorem setSignal_scrollOffset (s : State) (sg : PhaseSignal) : (s.setSignal sg).scrollOffset = s.scrollOffset := rfl
@[simp] theorem setSignal_displayEnabled (s : State) (sg : PhaseSignal) : (s.setSignal sg).displayEnabled = s.displayEnabled := rfl
@[simp] theorem setSignal_keySel (s : State) (sg : PhaseSignal) : (s.setSignal sg).keySel = s.keySel := rfl
@[simp] theorem setSignal_mem (s : State) (sg : PhaseSignal) : (s.setSignal sg).mem = s.mem := rfl
@[simp] theorem setSignal_config (s : State) (sg : PhaseSignal) : (s.setSignal sg).config = s.config := rfl
@[simp] theorem setSignal_trace (s : State) (sg : PhaseSignal) : (s.setSignal sg).trace = s.trace := rfl
@[simp] theorem setSignal_signal (s : State) (sg : PhaseSignal) : (s.setSignal sg).signal = sg := rfl
@[simp] theorem setSignal_keypadAnswers (s : State) (sg : PhaseSignal) : (s.setSignal sg).keypadAnswers = s.keypadAnswers := rfl
@[simp] theorem setSignal_keypadQueries (s : State) (sg : PhaseSignal) : (s.setSignal sg).keypadQueries = s.keypadQueries := rfl
@[simp] theorem setSignal_reg (s : State) (sg : PhaseSignal) (m : RegNo) : (s.setSignal sg).reg m = s.reg m := rfl
@[simp] theorem setSignal_memRead (s : State) (sg : PhaseSignal) (w : Word) : (s.setSignal sg).memRead w = s.memRead w := rfl
@[simp] theorem setSignal_pc (s : State) (sg : PhaseSignal) : (s.setSignal sg).pc = s.pc := rfl
@[simp] theorem setSignal_dataPtr (s : State) (sg : PhaseSignal) : (s.setSignal sg).dataPtr = s.dataPtr := rfl

@[simp] theorem setWindow_r (s : State) (b : Addr12) (c : Byte) : (s.setWindow b c).r = s.r := rfl
@[simp] theorem setWindow_d (s : State) (b : Addr12) (c : Byte) : (s.setWindow b c).d = s.d := rfl
@[simp] theorem setWindow_df (s : State) (b : Addr12) (c : Byte) : (s.setWindow b c).df = s.df := rfl
@[simp] theorem setWindow_q (s : State) (b : Addr12) (c : Byte) : (s.setWindow b c).q = s.q := rfl
@[simp] theorem setWindow_ie (s : State) (b : Addr12) (c : Byte) : (s.setWindow b c).ie = s.ie := rfl
@[simp] theorem setWindow_t (s : State) (b : Addr12) (c : Byte) : (s.setWindow b c).t = s.t := rfl
@[simp] theorem setWindow_x (s : State) (b : Addr12) (c : Byte) : (s.setWindow b c).x = s.x := rfl
@[simp] theorem setWindow_p (s : State) (b : Addr12) (c : Byte) : (s.setWindow b c).p = s.p := rfl
@[simp] theorem setWindow_cycles (s : State) (b : Addr12) (c : Byte) : (s.setWindow b c).cycles = s.cycles := rfl
@[simp] theorem setWindow_phase (s : State) (b : Addr12) (c : Byte) : (s.setWindow b c).phase = s.phase := rfl
@[simp] theorem setWindow_screenBase (s : State) (b : Addr12) (c : Byte) : (s.setWindow b c).screenBase = b := rfl
@[simp] theorem setWindow_scrollOffset (s : State) (b : Addr12) (c : Byte) : (s.setWindow b c).scrollOffset = c := rfl
@[simp] theorem setWindow_displayEnabled (s : State) (b : Addr12) (c : Byte) : (s.setWindow b c).displayEnabled = s.displayEnabled := rfl
@[simp] theorem setWindow_keySel (s : State) (b : Addr12) (c : Byte) : (s.setWindow b c).keySel = s.keySel := rfl
@[simp] theorem setWindow_mem (s : State) (b : Addr12) (c : Byte) : (s.setWindow b c).mem = s.mem := rfl
@[simp] theorem setWindow_config (s : State) (b : Addr12) (c : Byte) : (s.setWindow b c).config = s.config := rfl
@[simp] theorem setWindow_trace (s : State) (b : Addr12) (c : Byte) : (s.setWindow b c).trace = s.trace := rfl
@[simp] theorem setWindow_signal (s : State) (b : Addr12) (c : Byte) : (s.setWindow b c).signal = s.signal := rfl
@[simp] theorem setWindow_keypadAnswers (s : State) (b : Addr12) (c : Byte) : (s.setWindow b c).keypadAnswers = s.keypadAnswers := rfl
@[simp] theorem setWindow_keypadQueries (s : State) (b : Addr12) (c : Byte) : (s.setWindow b c).keypadQueries = s.keypadQueries := rfl
@[simp] theorem setWindow_reg (s : State) (b : Addr12) (c : Byte) (m : RegNo) : (s.setWindow b c).reg m = s.reg m := rfl
@[simp] theorem setWindow_memRead (s : State) (b : Addr12) (c : Byte) (w : Word) : (s.setWindow b c).memRead w = s.memRead w := rfl
@[simp] theorem setWindow_pc (s : State) (b : Addr12) (c : Byte) : (s.setWindow b c).pc = s.pc := rfl
@[simp] theorem setWindow_dataPtr (s : State) (b : Addr12) (c : Byte) : (s.setWindow b c).dataPtr = s.dataPtr := rfl

@[simp] theorem charge_r (s : State) (i : Instr) : (s.charge i).r = s.r := rfl
@[simp] theorem operandFetched_d (s : State) : s.operandFetched.d = s.d := rfl
@[simp] theorem setDataPtr_d (s : State) (v : Word) : (s.setDataPtr v).d = s.d := rfl
@[simp] theorem charge_d (s : State) (i : Instr) : (s.charge i).d = s.d := rfl
@[simp] theorem operandFetched_df (s : State) : s.operandFetched.df = s.df := rfl
@[simp] theorem setDataPtr_df (s : State) (v : Word) : (s.setDataPtr v).df = s.df := rfl
@[simp] theorem charge_df (s : State) (i : Instr) : (s.charge i).df = s.df := rfl
@[simp] theorem operandFetched_q (s : State) : s.operandFetched.q = s.q := rfl
@[simp] theorem setDataPtr_q (s : State) (v : Word) : (s.setDataPtr v).q = s.q := rfl
@[simp] theorem charge_q (s : State) (i : Instr) : (s.charge i).q = s.q := rfl
@[simp] theorem operandFetched_ie (s : State) : s.operandFetched.ie = s.ie := rfl
@[simp] theorem setDataPtr_ie (s : State) (v : Word) : (s.setDataPtr v).ie = s.ie := rfl
@[simp] theorem charge_ie (s : State) (i : Instr) : (s.charge i).ie = s.ie := rfl
@[simp] theorem operandFetched_t (s : State) : s.operandFetched.t = s.t := rfl
@[simp] theorem setDataPtr_t (s : State) (v : Word) : (s.setDataPtr v).t = s.t := rfl
@[simp] theorem charge_t (s : State) (i : Instr) : (s.charge i).t = s.t := rfl
@[simp] theorem operandFetched_x (s : State) : s.operandFetched.x = s.x := rfl
@[simp] theorem setDataPtr_x (s : State) (v : Word) : (s.setDataPtr v).x = s.x := rfl
@[simp] theorem charge_x (s : State) (i : Instr) : (s.charge i).x = s.x := rfl
@[simp] theorem operandFetched_p (s : State) : s.operandFetched.p = s.p := rfl
@[simp] theorem setDataPtr_p (s : State) (v : Word) : (s.setDataPtr v).p = s.p := rfl
@[simp] theorem charge_p (s : State) (i : Instr) : (s.charge i).p = s.p := rfl
@[simp] theorem operandFetched_cycles (s : State) : s.operandFetched.cycles = s.cycles := rfl
@[simp] theorem setDataPtr_cycles (s : State) (v : Word) : (s.setDataPtr v).cycles = s.cycles := rfl
@[simp] theorem operandFetched_phase (s : State) : s.operandFetched.phase = s.phase := rfl
@[simp] theorem setDataPtr_phase (s : State) (v : Word) : (s.setDataPtr v).phase = s.phase := rfl
@[simp] theorem charge_phase (s : State) (i : Instr) : (s.charge i).phase = s.phase := rfl
@[simp] theorem operandFetched_screenBase (s : State) : s.operandFetched.screenBase = s.screenBase := rfl
@[simp] theorem setDataPtr_screenBase (s : State) (v : Word) : (s.setDataPtr v).screenBase = s.screenBase := rfl
@[simp] theorem charge_screenBase (s : State) (i : Instr) : (s.charge i).screenBase = s.screenBase := rfl
@[simp] theorem operandFetched_scrollOffset (s : State) : s.operandFetched.scrollOffset = s.scrollOffset := rfl
@[simp] theorem setDataPtr_scrollOffset (s : State) (v : Word) : (s.setDataPtr v).scrollOffset = s.scrollOffset := rfl
@[simp] theorem charge_scrollOffset (s : State) (i : Instr) : (s.charge i).scrollOffset = s.scrollOffset := rfl
@[simp] theorem operandFetched_displayEnabled (s : State) : s.operandFetched.displayEnabled = s.displayEnabled := rfl
@[simp] theorem setDataPtr_displayEnabled (s : State) (v : Word) : (s.setDataPtr v).displayEnabled = s.displayEnabled := rfl
@[simp] theorem charge_displayEnabled (s : State) (i : Instr) : (s.charge i).displayEnabled = s.displayEnabled := rfl
@[simp] theorem operandFetched_keySel (s : State) : s.operandFetched.keySel = s.keySel := rfl
@[simp] theorem setDataPtr_keySel (s : State) (v : Word) : (s.setDataPtr v).keySel = s.keySel := rfl
@[simp] theorem charge_keySel (s : State) (i : Instr) : (s.charge i).keySel = s.keySel := rfl
@[simp] theorem operandFetched_mem (s : State) : s.operandFetched.mem = s.mem := rfl
@[simp] theorem setDataPtr_mem (s : State) (v : Word) : (s.setDataPtr v).mem = s.mem := rfl
@[simp] theorem charge_mem (s : State) (i : Instr) : (s.charge i).mem = s.mem := rfl
@[simp] theorem operandFetched_config (s : State) : s.operandFetched.config = s.config := rfl
@[simp] theorem setDataPtr_config (s : State) (v : Word) : (s.setDataPtr v).config = s.config := rfl
@[simp] theorem charge_config (s : State) (i : Instr) : (s.charge i).config = s.config := rfl
@[simp] theorem operandFetched_trace (s : State) : s.operandFetched.trace = s.trace := rfl
@[simp] theorem setDataPtr_trace (s : State) (v : Word) : (s.setDataPtr v).trace = s.trace := rfl
@[simp] theorem charge_trace (s : State) (i : Instr) : (s.charge i).trace = s.trace := rfl
@[simp] theorem operandFetched_signal (s : State) : s.operandFetched.signal = s.signal := rfl
@[simp] theorem setDataPtr_signal (s : State) (v : Word) : (s.setDataPtr v).signal = s.signal := rfl
@[simp] theorem charge_signal (s : State) (i : Instr) : (s.charge i).signal = s.signal := rfl
@[simp] theorem operandFetched_keypadAnswers (s : State) : s.operandFetched.keypadAnswers = s.keypadAnswers := rfl
@[simp] theorem setDataPtr_keypadAnswers (s : State) (v : Word) : (s.setDataPtr v).keypadAnswers = s.keypadAnswers := rfl
@[simp] theorem charge_keypadAnswers (s : State) (i : Instr) : (s.charge i).keypadAnswers = s.keypadAnswers := rfl
@[simp] theorem operandFetched_keypadQueries (s : State) : s.operandFetched.keypadQueries = s.keypadQueries := rfl
@[simp] theorem setDataPtr_keypadQueries (s : State) (v : Word) : (s.setDataPtr v).keypadQueries = s.keypadQueries := rfl
@[simp] theorem charge_keypadQueries (s : State) (i : Instr) : (s.charge i).keypadQueries = s.keypadQueries := rfl
@[simp] theorem operandFetched_memRead (s : State) (w : Word) : s.operandFetched.memRead w = s.memRead w := rfl
@[simp] theorem setDataPtr_memRead (s : State) (v w : Word) : (s.setDataPtr v).memRead w = s.memRead w := rfl
@[simp] theorem charge_memRead (s : State) (i : Instr) (w : Word) : (s.charge i).memRead w = s.memRead w := rfl
@[simp] theorem charge_reg (s : State) (i : Instr) (m : RegNo) : (s.charge i).reg m = s.reg m := rfl
@[simp] theorem charge_pc (s : State) (i : Instr) : (s.charge i).pc = s.pc := rfl

end Sys2Proof.Machine.State
end

