-- ==== Sys2Proof/Laws/Ops.lean ====
section
/-! SUPPORT. What each shared operation can do, said once: register and memory reads after writes, the bridge, interrupt
entry and return, the frame FSM, branches and skips, the ALU primitives. Later proofs cite these and unfold nothing. -/

namespace Sys2Proof.Machine

/-! ### Registers -/

namespace State

@[simp] theorem setReg_reg (s : State) (n m : RegNo) (v : Word) :
    (s.setReg n v).reg m = if m = n then v else s.reg m := by
  simp only [setReg, reg, Vector.getElem_set]
  by_cases h : m = n
  · simp [h]
  · have hne : ¬n.toNat = m.toNat := fun e => h (BitVec.eq_of_toNat_eq e.symm)
    simp [h, hne]

theorem setPc_reg (s : State) (m : RegNo) (v : Word) : (s.setPc v).reg m = if m = s.p then v else s.reg m :=
  setReg_reg s s.p m v

@[simp] theorem setPc_pc (s : State) (v : Word) : (s.setPc v).pc = v := by
  simp [pc, setPc]

@[simp] theorem operandFetched_pc (s : State) : s.operandFetched.pc = s.pc + 1#16 := by
  simp [operandFetched]

theorem operandFetched_reg (s : State) (m : RegNo) :
    s.operandFetched.reg m = if m = s.p then s.pc + 1#16 else s.reg m := by
  simp [operandFetched, setPc_reg]

theorem setDataPtr_reg (s : State) (m : RegNo) (v : Word) :
    (s.setDataPtr v).reg m = if m = s.x then v else s.reg m := setReg_reg s s.x m v

/-! ### Memory -/

theorem memWrite_memRead_same {s : State} (h : s.mem.wf) (a : Word) (v : Byte) :
    (s.memWrite a v).memRead a = if isRam (a12 a.toNat) then v else s.memRead a := by
  simp only [memWrite, memRead]
  split
  · exact Memory.read_write_same h _ v
  · rfl

theorem memWrite_memRead_other (s : State) {a b : Word} (hne : a12 b.toNat ≠ a12 a.toNat) (v : Byte) :
    (s.memWrite a v).memRead b = s.memRead b := by
  simp only [memWrite, memRead]
  split
  · exact Memory.read_write_other s.mem hne v
  · rfl

/-- All `MemWrite` does to memory (R43). -/
theorem memWrite_storedAt {s : State} (h : s.mem.wf) (a : Word) (v : Byte) : StoredAt a v s (s.memWrite a v) :=
  ⟨memWrite_memRead_same h a v, fun _ hne => memWrite_memRead_other s hne v⟩

theorem memWrite_mem (s : State) (a : Word) (v : Byte) :
    (s.memWrite a v).mem = if isRam (a12 a.toNat) then s.mem.write (a12 a.toNat) v else s.mem := by
  simp only [memWrite]; split <;> rfl

/-- The same for a store after updates that leave memory alone. -/
theorem memWrite_storedAt_of_mem {s u : State} (h : s.mem.wf) (hu : u.mem = s.mem) (a : Word) (v : Byte) :
    StoredAt a v s (u.memWrite a v) := by
  have hs := memWrite_storedAt h a v
  have e : (u.memWrite a v).mem = (s.memWrite a v).mem := by rw [memWrite_mem, memWrite_mem, hu]
  simpa only [StoredAt, SameMemBut, memRead, e] using hs

theorem memWrite_wf {s : State} (h : s.mem.wf) (a : Word) (v : Byte) : (s.memWrite a v).mem.wf := by
  simp only [memWrite]
  split
  · exact Memory.write_wf h (Memory.a12_lt _) v
  · exact h

/-- A write leaves every cell outside RAM as it was (R43). -/
theorem memWrite_image (s : State) (a w : Word) (v : Byte) (hw : isRam (a12 w.toNat) = false) :
    (s.memWrite a v).memRead w = s.memRead w := by
  by_cases hne : a12 w.toNat = a12 a.toNat
  · simp [memWrite, ← hne, hw]
  · exact memWrite_memRead_other s hne v

@[simp] theorem memWrite_r (s : State) (a : Word) (v : Byte) : (s.memWrite a v).r = s.r := by
  simp only [memWrite]; split <;> rfl
@[simp] theorem memWrite_d (s : State) (a : Word) (v : Byte) : (s.memWrite a v).d = s.d := by
  simp only [memWrite]; split <;> rfl
@[simp] theorem memWrite_df (s : State) (a : Word) (v : Byte) : (s.memWrite a v).df = s.df := by
  simp only [memWrite]; split <;> rfl
@[simp] theorem memWrite_q (s : State) (a : Word) (v : Byte) : (s.memWrite a v).q = s.q := by
  simp only [memWrite]; split <;> rfl
@[simp] theorem memWrite_ie (s : State) (a : Word) (v : Byte) : (s.memWrite a v).ie = s.ie := by
  simp only [memWrite]; split <;> rfl
@[simp] theorem memWrite_t (s : State) (a : Word) (v : Byte) : (s.memWrite a v).t = s.t := by
  simp only [memWrite]; split <;> rfl
@[simp] theorem memWrite_x (s : State) (a : Word) (v : Byte) : (s.memWrite a v).x = s.x := by
  simp only [memWrite]; split <;> rfl
@[simp] theorem memWrite_p (s : State) (a : Word) (v : Byte) : (s.memWrite a v).p = s.p := by
  simp only [memWrite]; split <;> rfl
@[simp] theorem memWrite_cycles (s : State) (a : Word) (v : Byte) : (s.memWrite a v).cycles = s.cycles := by
  simp only [memWrite]; split <;> rfl
@[simp] theorem memWrite_phase (s : State) (a : Word) (v : Byte) : (s.memWrite a v).phase = s.phase := by
  simp only [memWrite]; split <;> rfl
@[simp] theorem memWrite_screenBase (s : State) (a : Word) (v : Byte) : (s.memWrite a v).screenBase = s.screenBase := by
  simp only [memWrite]; split <;> rfl
@[simp] theorem memWrite_scrollOffset (s : State) (a : Word) (v : Byte) : (s.memWrite a v).scrollOffset = s.scrollOffset := by
  simp only [memWrite]; split <;> rfl
@[simp] theorem memWrite_displayEnabled (s : State) (a : Word) (v : Byte) : (s.memWrite a v).displayEnabled = s.displayEnabled := by
  simp only [memWrite]; split <;> rfl
@[simp] theorem memWrite_keySel (s : State) (a : Word) (v : Byte) : (s.memWrite a v).keySel = s.keySel := by
  simp only [memWrite]; split <;> rfl
@[simp] theorem memWrite_config (s : State) (a : Word) (v : Byte) : (s.memWrite a v).config = s.config := by
  simp only [memWrite]; split <;> rfl
@[simp] theorem memWrite_trace (s : State) (a : Word) (v : Byte) : (s.memWrite a v).trace = s.trace := by
  simp only [memWrite]; split <;> rfl
@[simp] theorem memWrite_signal (s : State) (a : Word) (v : Byte) : (s.memWrite a v).signal = s.signal := by
  simp only [memWrite]; split <;> rfl
@[simp] theorem memWrite_keypadAnswers (s : State) (a : Word) (v : Byte) : (s.memWrite a v).keypadAnswers = s.keypadAnswers := by
  simp only [memWrite]; split <;> rfl
@[simp] theorem memWrite_keypadQueries (s : State) (a : Word) (v : Byte) : (s.memWrite a v).keypadQueries = s.keypadQueries := by
  simp only [memWrite]; split <;> rfl
@[simp] theorem memWrite_reg (s : State) (a : Word) (v : Byte) (m : RegNo) : (s.memWrite a v).reg m = s.reg m := by
  simp only [memWrite]; split <;> rfl

/-! ### Interrupt entry and return (R316, R190, R191) -/

@[simp] theorem interrupt_r (s : State) : s.interrupt.r = s.r := by
  simp only [interrupt]; split <;> rfl
@[simp] theorem interrupt_d (s : State) : s.interrupt.d = s.d := by
  simp only [interrupt]; split <;> rfl
@[simp] theorem interrupt_df (s : State) : s.interrupt.df = s.df := by
  simp only [interrupt]; split <;> rfl
@[simp] theorem interrupt_q (s : State) : s.interrupt.q = s.q := by
  simp only [interrupt]; split <;> rfl
@[simp] theorem interrupt_cycles (s : State) : s.interrupt.cycles = s.cycles := by
  simp only [interrupt]; split <;> rfl
@[simp] theorem interrupt_phase (s : State) : s.interrupt.phase = s.phase := by
  simp only [interrupt]; split <;> rfl
@[simp] theorem interrupt_screenBase (s : State) : s.interrupt.screenBase = s.screenBase := by
  simp only [interrupt]; split <;> rfl
@[simp] theorem interrupt_scrollOffset (s : State) : s.interrupt.scrollOffset = s.scrollOffset := by
  simp only [interrupt]; split <;> rfl
@[simp] theorem interrupt_displayEnabled (s : State) : s.interrupt.displayEnabled = s.displayEnabled := by
  simp only [interrupt]; split <;> rfl
@[simp] theorem interrupt_keySel (s : State) : s.interrupt.keySel = s.keySel := by
  simp only [interrupt]; split <;> rfl
@[simp] theorem interrupt_mem (s : State) : s.interrupt.mem = s.mem := by
  simp only [interrupt]; split <;> rfl
@[simp] theorem interrupt_config (s : State) : s.interrupt.config = s.config := by
  simp only [interrupt]; split <;> rfl
@[simp] theorem interrupt_trace (s : State) : s.interrupt.trace = s.trace := by
  simp only [interrupt]; split <;> rfl
@[simp] theorem interrupt_signal (s : State) : s.interrupt.signal = s.signal := by
  simp only [interrupt]; split <;> rfl
@[simp] theorem interrupt_keypadAnswers (s : State) : s.interrupt.keypadAnswers = s.keypadAnswers := by
  simp only [interrupt]; split <;> rfl
@[simp] theorem interrupt_keypadQueries (s : State) : s.interrupt.keypadQueries = s.keypadQueries := by
  simp only [interrupt]; split <;> rfl
@[simp] theorem interrupt_reg (s : State) (m : RegNo) : s.interrupt.reg m = s.reg m := by
  simp only [interrupt]; split <;> rfl
@[simp] theorem interrupt_memRead (s : State) (w : Word) : s.interrupt.memRead w = s.memRead w := by
  simp only [interrupt]; split <;> rfl
@[simp] theorem interrupt_ie (s : State) : s.interrupt.ie = false := by
  simp only [interrupt]; split <;> simp_all

@[simp] theorem returnFrom_d (s : State) (b : Bool) : (s.returnFrom b).d = s.d := rfl
@[simp] theorem returnFrom_df (s : State) (b : Bool) : (s.returnFrom b).df = s.df := rfl
@[simp] theorem returnFrom_q (s : State) (b : Bool) : (s.returnFrom b).q = s.q := rfl
@[simp] theorem returnFrom_t (s : State) (b : Bool) : (s.returnFrom b).t = s.t := rfl
@[simp] theorem returnFrom_cycles (s : State) (b : Bool) : (s.returnFrom b).cycles = s.cycles := rfl
@[simp] theorem returnFrom_phase (s : State) (b : Bool) : (s.returnFrom b).phase = s.phase := rfl
@[simp] theorem returnFrom_screenBase (s : State) (b : Bool) : (s.returnFrom b).screenBase = s.screenBase := rfl
@[simp] theorem returnFrom_scrollOffset (s : State) (b : Bool) : (s.returnFrom b).scrollOffset = s.scrollOffset := rfl
@[simp] theorem returnFrom_displayEnabled (s : State) (b : Bool) : (s.returnFrom b).displayEnabled = s.displayEnabled := rfl
@[simp] theorem returnFrom_keySel (s : State) (b : Bool) : (s.returnFrom b).keySel = s.keySel := rfl
@[simp] theorem returnFrom_mem (s : State) (b : Bool) : (s.returnFrom b).mem = s.mem := rfl
@[simp] theorem returnFrom_config (s : State) (b : Bool) : (s.returnFrom b).config = s.config := rfl
@[simp] theorem returnFrom_trace (s : State) (b : Bool) : (s.returnFrom b).trace = s.trace := rfl
@[simp] theorem returnFrom_signal (s : State) (b : Bool) : (s.returnFrom b).signal = s.signal := rfl
@[simp] theorem returnFrom_keypadAnswers (s : State) (b : Bool) : (s.returnFrom b).keypadAnswers = s.keypadAnswers := rfl
@[simp] theorem returnFrom_keypadQueries (s : State) (b : Bool) : (s.returnFrom b).keypadQueries = s.keypadQueries := rfl
@[simp] theorem returnFrom_ie (s : State) (b : Bool) : (s.returnFrom b).ie = b := rfl
@[simp] theorem returnFrom_x (s : State) (b : Bool) : (s.returnFrom b).x = unpackX (s.memRead (s.reg 2#4)) := rfl
@[simp] theorem returnFrom_p (s : State) (b : Bool) : (s.returnFrom b).p = unpackP (s.memRead (s.reg 2#4)) := rfl
@[simp] theorem returnFrom_memRead (s : State) (b : Bool) (w : Word) : (s.returnFrom b).memRead w = s.memRead w := rfl
@[simp] theorem returnFrom_reg (s : State) (b : Bool) (m : RegNo) :
    (s.returnFrom b).reg m = if m = 2#4 then s.reg 2#4 + 1#16 else s.reg m := setReg_reg s 2#4 m _

/-! ### The bridge (R331 to R336) -/

@[simp] theorem portOut_r (s : State) (p : Port) (v : Byte) : (s.portOut p v).r = s.r := by
  simp only [portOut]; split_ifs <;> rfl
@[simp] theorem portOut_d (s : State) (p : Port) (v : Byte) : (s.portOut p v).d = s.d := by
  simp only [portOut]; split_ifs <;> rfl
@[simp] theorem portOut_df (s : State) (p : Port) (v : Byte) : (s.portOut p v).df = s.df := by
  simp only [portOut]; split_ifs <;> rfl
@[simp] theorem portOut_q (s : State) (p : Port) (v : Byte) : (s.portOut p v).q = s.q := by
  simp only [portOut]; split_ifs <;> rfl
@[simp] theorem portOut_ie (s : State) (p : Port) (v : Byte) : (s.portOut p v).ie = s.ie := by
  simp only [portOut]; split_ifs <;> rfl
@[simp] theorem portOut_t (s : State) (p : Port) (v : Byte) : (s.portOut p v).t = s.t := by
  simp only [portOut]; split_ifs <;> rfl
@[simp] theorem portOut_x (s : State) (p : Port) (v : Byte) : (s.portOut p v).x = s.x := by
  simp only [portOut]; split_ifs <;> rfl
@[simp] theorem portOut_p (s : State) (p : Port) (v : Byte) : (s.portOut p v).p = s.p := by
  simp only [portOut]; split_ifs <;> rfl
@[simp] theorem portOut_cycles (s : State) (p : Port) (v : Byte) : (s.portOut p v).cycles = s.cycles := by
  simp only [portOut]; split_ifs <;> rfl
@[simp] theorem portOut_phase (s : State) (p : Port) (v : Byte) : (s.portOut p v).phase = s.phase := by
  simp only [portOut]; split_ifs <;> rfl
@[simp] theorem portOut_screenBase (s : State) (p : Port) (v : Byte) : (s.portOut p v).screenBase = s.screenBase := by
  simp only [portOut]; split_ifs <;> rfl
@[simp] theorem portOut_scrollOffset (s : State) (p : Port) (v : Byte) : (s.portOut p v).scrollOffset = s.scrollOffset := by
  simp only [portOut]; split_ifs <;> rfl
@[simp] theorem portOut_mem (s : State) (p : Port) (v : Byte) : (s.portOut p v).mem = s.mem := by
  simp only [portOut]; split_ifs <;> rfl
@[simp] theorem portOut_config (s : State) (p : Port) (v : Byte) : (s.portOut p v).config = s.config := by
  simp only [portOut]; split_ifs <;> rfl
@[simp] theorem portOut_signal (s : State) (p : Port) (v : Byte) : (s.portOut p v).signal = s.signal := by
  simp only [portOut]; split_ifs <;> rfl
@[simp] theorem portOut_keypadAnswers (s : State) (p : Port) (v : Byte) : (s.portOut p v).keypadAnswers = s.keypadAnswers := by
  simp only [portOut]; split_ifs <;> rfl
@[simp] theorem portOut_keypadQueries (s : State) (p : Port) (v : Byte) : (s.portOut p v).keypadQueries = s.keypadQueries := by
  simp only [portOut]; split_ifs <;> rfl
@[simp] theorem portOut_reg (s : State) (p : Port) (v : Byte) (m : RegNo) : (s.portOut p v).reg m = s.reg m := by
  simp only [portOut]; split_ifs <;> rfl
@[simp] theorem portOut_memRead (s : State) (p : Port) (v : Byte) (w : Word) : (s.portOut p v).memRead w = s.memRead w := by
  simp only [portOut]; split_ifs <;> rfl
@[simp] theorem portOut_trace (s : State) (p : Port) (v : Byte) : (s.portOut p v).trace = s.trace ++ [.portOut p v] := by
  simp only [portOut]; split_ifs <;> rfl
theorem portOut_displayEnabled (s : State) (p : Port) (v : Byte) :
    (s.portOut p v).displayEnabled = if p = 1#3 then false else s.displayEnabled := by
  simp only [portOut]; split_ifs <;> rfl
theorem portOut_keySel (s : State) (p : Port) (v : Byte) :
    (s.portOut p v).keySel = if p = 2#3 then v.extractLsb' 0 4 else s.keySel := by
  simp only [portOut]
  by_cases h1 : p = 1#3
  · subst h1; rfl
  · by_cases h2 : p = 2#3 <;> simp [h1, h2]
@[simp] theorem portIn_value (s : State) (p : Port) : (s.portIn p).1 = 0#8 := by
  simp only [portIn]; split <;> rfl
@[simp] theorem portIn_r (s : State) (p : Port) : (s.portIn p).2.r = s.r := by
  simp only [portIn]; split <;> rfl
@[simp] theorem portIn_d (s : State) (p : Port) : (s.portIn p).2.d = s.d := by
  simp only [portIn]; split <;> rfl
@[simp] theorem portIn_df (s : State) (p : Port) : (s.portIn p).2.df = s.df := by
  simp only [portIn]; split <;> rfl
@[simp] theorem portIn_q (s : State) (p : Port) : (s.portIn p).2.q = s.q := by
  simp only [portIn]; split <;> rfl
@[simp] theorem portIn_ie (s : State) (p : Port) : (s.portIn p).2.ie = s.ie := by
  simp only [portIn]; split <;> rfl
@[simp] theorem portIn_t (s : State) (p : Port) : (s.portIn p).2.t = s.t := by
  simp only [portIn]; split <;> rfl
@[simp] theorem portIn_x (s : State) (p : Port) : (s.portIn p).2.x = s.x := by
  simp only [portIn]; split <;> rfl
@[simp] theorem portIn_p (s : State) (p : Port) : (s.portIn p).2.p = s.p := by
  simp only [portIn]; split <;> rfl
@[simp] theorem portIn_cycles (s : State) (p : Port) : (s.portIn p).2.cycles = s.cycles := by
  simp only [portIn]; split <;> rfl
@[simp] theorem portIn_phase (s : State) (p : Port) : (s.portIn p).2.phase = s.phase := by
  simp only [portIn]; split <;> rfl
@[simp] theorem portIn_screenBase (s : State) (p : Port) : (s.portIn p).2.screenBase = s.screenBase := by
  simp only [portIn]; split <;> rfl
@[simp] theorem portIn_scrollOffset (s : State) (p : Port) : (s.portIn p).2.scrollOffset = s.scrollOffset := by
  simp only [portIn]; split <;> rfl
@[simp] theorem portIn_keySel (s : State) (p : Port) : (s.portIn p).2.keySel = s.keySel := by
  simp only [portIn]; split <;> rfl
@[simp] theorem portIn_mem (s : State) (p : Port) : (s.portIn p).2.mem = s.mem := by
  simp only [portIn]; split <;> rfl
@[simp] theorem portIn_config (s : State) (p : Port) : (s.portIn p).2.config = s.config := by
  simp only [portIn]; split <;> rfl
@[simp] theorem portIn_signal (s : State) (p : Port) : (s.portIn p).2.signal = s.signal := by
  simp only [portIn]; split <;> rfl
@[simp] theorem portIn_keypadAnswers (s : State) (p : Port) : (s.portIn p).2.keypadAnswers = s.keypadAnswers := by
  simp only [portIn]; split <;> rfl
@[simp] theorem portIn_keypadQueries (s : State) (p : Port) : (s.portIn p).2.keypadQueries = s.keypadQueries := by
  simp only [portIn]; split <;> rfl
@[simp] theorem portIn_reg (s : State) (p : Port) (m : RegNo) : (s.portIn p).2.reg m = s.reg m := by
  simp only [portIn]; split <;> rfl
@[simp] theorem portIn_memRead (s : State) (p : Port) (w : Word) : (s.portIn p).2.memRead w = s.memRead w := by
  simp only [portIn]; split <;> rfl
@[simp] theorem portIn_trace (s : State) (p : Port) : (s.portIn p).2.trace = s.trace ++ [.portIn p] := by
  simp only [portIn]; split <;> rfl
theorem portIn_displayEnabled (s : State) (p : Port) :
    (s.portIn p).2.displayEnabled = if p = 1#3 then true else s.displayEnabled := by
  simp only [portIn]; split <;> rfl
@[simp] theorem queryKeypad_r (s : State) (k : Keypad) : (s.queryKeypad k).2.r = s.r := rfl
@[simp] theorem queryKeypad_d (s : State) (k : Keypad) : (s.queryKeypad k).2.d = s.d := rfl
@[simp] theorem queryKeypad_df (s : State) (k : Keypad) : (s.queryKeypad k).2.df = s.df := rfl
@[simp] theorem queryKeypad_q (s : State) (k : Keypad) : (s.queryKeypad k).2.q = s.q := rfl
@[simp] theorem queryKeypad_ie (s : State) (k : Keypad) : (s.queryKeypad k).2.ie = s.ie := rfl
@[simp] theorem queryKeypad_t (s : State) (k : Keypad) : (s.queryKeypad k).2.t = s.t := rfl
@[simp] theorem queryKeypad_x (s : State) (k : Keypad) : (s.queryKeypad k).2.x = s.x := rfl
@[simp] theorem queryKeypad_p (s : State) (k : Keypad) : (s.queryKeypad k).2.p = s.p := rfl
@[simp] theorem queryKeypad_cycles (s : State) (k : Keypad) : (s.queryKeypad k).2.cycles = s.cycles := rfl
@[simp] theorem queryKeypad_phase (s : State) (k : Keypad) : (s.queryKeypad k).2.phase = s.phase := rfl
@[simp] theorem queryKeypad_screenBase (s : State) (k : Keypad) : (s.queryKeypad k).2.screenBase = s.screenBase := rfl
@[simp] theorem queryKeypad_scrollOffset (s : State) (k : Keypad) : (s.queryKeypad k).2.scrollOffset = s.scrollOffset := rfl
@[simp] theorem queryKeypad_displayEnabled (s : State) (k : Keypad) : (s.queryKeypad k).2.displayEnabled = s.displayEnabled := rfl
@[simp] theorem queryKeypad_keySel (s : State) (k : Keypad) : (s.queryKeypad k).2.keySel = s.keySel := rfl
@[simp] theorem queryKeypad_mem (s : State) (k : Keypad) : (s.queryKeypad k).2.mem = s.mem := rfl
@[simp] theorem queryKeypad_config (s : State) (k : Keypad) : (s.queryKeypad k).2.config = s.config := rfl
@[simp] theorem queryKeypad_signal (s : State) (k : Keypad) : (s.queryKeypad k).2.signal = s.signal := rfl
@[simp] theorem extFlag_r (s : State) (i : Nat) : (s.extFlag i).2.r = s.r := by
  simp only [extFlag]; split <;> rfl
@[simp] theorem extFlag_d (s : State) (i : Nat) : (s.extFlag i).2.d = s.d := by
  simp only [extFlag]; split <;> rfl
@[simp] theorem extFlag_df (s : State) (i : Nat) : (s.extFlag i).2.df = s.df := by
  simp only [extFlag]; split <;> rfl
@[simp] theorem extFlag_q (s : State) (i : Nat) : (s.extFlag i).2.q = s.q := by
  simp only [extFlag]; split <;> rfl
@[simp] theorem extFlag_ie (s : State) (i : Nat) : (s.extFlag i).2.ie = s.ie := by
  simp only [extFlag]; split <;> rfl
@[simp] theorem extFlag_t (s : State) (i : Nat) : (s.extFlag i).2.t = s.t := by
  simp only [extFlag]; split <;> rfl
@[simp] theorem extFlag_x (s : State) (i : Nat) : (s.extFlag i).2.x = s.x := by
  simp only [extFlag]; split <;> rfl
@[simp] theorem extFlag_p (s : State) (i : Nat) : (s.extFlag i).2.p = s.p := by
  simp only [extFlag]; split <;> rfl
@[simp] theorem extFlag_cycles (s : State) (i : Nat) : (s.extFlag i).2.cycles = s.cycles := by
  simp only [extFlag]; split <;> rfl
@[simp] theorem extFlag_phase (s : State) (i : Nat) : (s.extFlag i).2.phase = s.phase := by
  simp only [extFlag]; split <;> rfl
@[simp] theorem extFlag_screenBase (s : State) (i : Nat) : (s.extFlag i).2.screenBase = s.screenBase := by
  simp only [extFlag]; split <;> rfl
@[simp] theorem extFlag_scrollOffset (s : State) (i : Nat) : (s.extFlag i).2.scrollOffset = s.scrollOffset := by
  simp only [extFlag]; split <;> rfl
@[simp] theorem extFlag_displayEnabled (s : State) (i : Nat) : (s.extFlag i).2.displayEnabled = s.displayEnabled := by
  simp only [extFlag]; split <;> rfl
@[simp] theorem extFlag_keySel (s : State) (i : Nat) : (s.extFlag i).2.keySel = s.keySel := by
  simp only [extFlag]; split <;> rfl
@[simp] theorem extFlag_mem (s : State) (i : Nat) : (s.extFlag i).2.mem = s.mem := by
  simp only [extFlag]; split <;> rfl
@[simp] theorem extFlag_config (s : State) (i : Nat) : (s.extFlag i).2.config = s.config := by
  simp only [extFlag]; split <;> rfl
@[simp] theorem extFlag_signal (s : State) (i : Nat) : (s.extFlag i).2.signal = s.signal := by
  simp only [extFlag]; split <;> rfl
@[simp] theorem queryKeypad_reg (s : State) (k : Keypad) (m : RegNo) : (s.queryKeypad k).2.reg m = s.reg m := rfl
@[simp] theorem queryKeypad_pc (s : State) (k : Keypad) : (s.queryKeypad k).2.pc = s.pc := rfl
@[simp] theorem queryKeypad_memRead (s : State) (k : Keypad) (w : Word) :
    (s.queryKeypad k).2.memRead w = s.memRead w := rfl
@[simp] theorem queryKeypad_trace (s : State) (k : Keypad) :
    (s.queryKeypad k).2.trace = s.trace ++ [.keypadSelect k] := rfl
@[simp] theorem queryKeypad_keypadAnswers (s : State) (k : Keypad) :
    (s.queryKeypad k).2.keypadAnswers = s.keypadAnswers.tail := rfl
@[simp] theorem queryKeypad_keypadQueries (s : State) (k : Keypad) :
    (s.queryKeypad k).2.keypadQueries = s.keypadQueries + 1 := rfl
@[simp] theorem queryKeypad_value (s : State) (k : Keypad) : (s.queryKeypad k).1 = s.keypadAnswer k := rfl
theorem keypadAnswer_cons {s : State} {b : Bool} {rest : List Bool} (h : s.keypadAnswers = b :: rest) (k : Keypad) :
    s.keypadAnswer k = b := by simp only [keypadAnswer, h]
theorem keypadAnswer_nil {s : State} (h : s.keypadAnswers = []) (k : Keypad) :
    s.keypadAnswer k = Config.keypadQuery s.keypadQueries k s.keySel := by simp only [keypadAnswer, h]
@[simp] theorem extFlag_one (s : State) : s.extFlag 1 = (true, s) := rfl
@[simp] theorem extFlag_two (s : State) : s.extFlag 2 = (s.config.ef2Level, s) := rfl
@[simp] theorem extFlag_three (s : State) : s.extFlag 3 = s.queryKeypad .pad1 := rfl
@[simp] theorem extFlag_four (s : State) : s.extFlag 4 = s.queryKeypad .pad2 := rfl
@[simp] theorem extFlag_reg (s : State) (i : Nat) (m : RegNo) : (s.extFlag i).2.reg m = s.reg m := by
  simp only [extFlag]; split <;> rfl
@[simp] theorem extFlag_memRead (s : State) (i : Nat) (w : Word) : (s.extFlag i).2.memRead w = s.memRead w := by
  simp only [extFlag]; split <;> rfl
@[simp] theorem extFlag_pc (s : State) (i : Nat) : (s.extFlag i).2.pc = s.pc := by
  simp only [extFlag]; split <;> rfl
@[simp] theorem latchQ_r (s : State) (v : Bool) : (s.latchQ v).r = s.r := by
  simp only [latchQ]; split <;> rfl
@[simp] theorem latchQ_d (s : State) (v : Bool) : (s.latchQ v).d = s.d := by
  simp only [latchQ]; split <;> rfl
@[simp] theorem latchQ_df (s : State) (v : Bool) : (s.latchQ v).df = s.df := by
  simp only [latchQ]; split <;> rfl
@[simp] theorem latchQ_ie (s : State) (v : Bool) : (s.latchQ v).ie = s.ie := by
  simp only [latchQ]; split <;> rfl
@[simp] theorem latchQ_t (s : State) (v : Bool) : (s.latchQ v).t = s.t := by
  simp only [latchQ]; split <;> rfl
@[simp] theorem latchQ_x (s : State) (v : Bool) : (s.latchQ v).x = s.x := by
  simp only [latchQ]; split <;> rfl
@[simp] theorem latchQ_p (s : State) (v : Bool) : (s.latchQ v).p = s.p := by
  simp only [latchQ]; split <;> rfl
@[simp] theorem latchQ_cycles (s : State) (v : Bool) : (s.latchQ v).cycles = s.cycles := by
  simp only [latchQ]; split <;> rfl
@[simp] theorem latchQ_phase (s : State) (v : Bool) : (s.latchQ v).phase = s.phase := by
  simp only [latchQ]; split <;> rfl
@[simp] theorem latchQ_screenBase (s : State) (v : Bool) : (s.latchQ v).screenBase = s.screenBase := by
  simp only [latchQ]; split <;> rfl
@[simp] theorem latchQ_scrollOffset (s : State) (v : Bool) : (s.latchQ v).scrollOffset = s.scrollOffset := by
  simp only [latchQ]; split <;> rfl
@[simp] theorem latchQ_displayEnabled (s : State) (v : Bool) : (s.latchQ v).displayEnabled = s.displayEnabled := by
  simp only [latchQ]; split <;> rfl
@[simp] theorem latchQ_keySel (s : State) (v : Bool) : (s.latchQ v).keySel = s.keySel := by
  simp only [latchQ]; split <;> rfl
@[simp] theorem latchQ_mem (s : State) (v : Bool) : (s.latchQ v).mem = s.mem := by
  simp only [latchQ]; split <;> rfl
@[simp] theorem latchQ_config (s : State) (v : Bool) : (s.latchQ v).config = s.config := by
  simp only [latchQ]; split <;> rfl
@[simp] theorem latchQ_signal (s : State) (v : Bool) : (s.latchQ v).signal = s.signal := by
  simp only [latchQ]; split <;> rfl
@[simp] theorem latchQ_keypadAnswers (s : State) (v : Bool) : (s.latchQ v).keypadAnswers = s.keypadAnswers := by
  simp only [latchQ]; split <;> rfl
@[simp] theorem latchQ_keypadQueries (s : State) (v : Bool) : (s.latchQ v).keypadQueries = s.keypadQueries := by
  simp only [latchQ]; split <;> rfl
@[simp] theorem latchQ_q (s : State) (v : Bool) : (s.latchQ v).q = v := by
  simp only [latchQ]; split <;> rfl
@[simp] theorem latchQ_reg (s : State) (v : Bool) (m : RegNo) : (s.latchQ v).reg m = s.reg m := by
  simp only [latchQ]; split <;> rfl
@[simp] theorem latchQ_memRead (s : State) (v : Bool) (w : Word) : (s.latchQ v).memRead w = s.memRead w := by
  simp only [latchQ]; split <;> rfl
theorem latchQ_trace (s : State) (v : Bool) :
    (s.latchQ v).trace = if s.q = v then s.trace else s.trace ++ [.portOut 0#3 (BitVec.ofNat 8 v.toNat)] := by
  simp only [latchQ]; split <;> rfl

/-! ### The frame FSM (R312 to R315) -/

/-- All the idle skip can do (R313). -/
theorem idleSkip_cases (s : State) :
    (s.memRead s.pc = 0#8 ∧ s.idleSkip = s.setPc (s.pc + 1#16)) ∨ (s.memRead s.pc ≠ 0#8 ∧ s.idleSkip = s) := by
  by_cases h : s.memRead s.pc = 0#8
  · exact .inl ⟨h, by simp only [idleSkip, h, if_true]⟩
  · exact .inr ⟨h, by simp only [idleSkip, h, if_false]⟩

@[simp] theorem idleSkip_d (s : State) : s.idleSkip.d = s.d := by
  simp only [idleSkip]; split <;> rfl
@[simp] theorem idleSkip_df (s : State) : s.idleSkip.df = s.df := by
  simp only [idleSkip]; split <;> rfl
@[simp] theorem idleSkip_q (s : State) : s.idleSkip.q = s.q := by
  simp only [idleSkip]; split <;> rfl
@[simp] theorem idleSkip_ie (s : State) : s.idleSkip.ie = s.ie := by
  simp only [idleSkip]; split <;> rfl
@[simp] theorem idleSkip_t (s : State) : s.idleSkip.t = s.t := by
  simp only [idleSkip]; split <;> rfl
@[simp] theorem idleSkip_x (s : State) : s.idleSkip.x = s.x := by
  simp only [idleSkip]; split <;> rfl
@[simp] theorem idleSkip_p (s : State) : s.idleSkip.p = s.p := by
  simp only [idleSkip]; split <;> rfl
@[simp] theorem idleSkip_cycles (s : State) : s.idleSkip.cycles = s.cycles := by
  simp only [idleSkip]; split <;> rfl
@[simp] theorem idleSkip_phase (s : State) : s.idleSkip.phase = s.phase := by
  simp only [idleSkip]; split <;> rfl
@[simp] theorem idleSkip_screenBase (s : State) : s.idleSkip.screenBase = s.screenBase := by
  simp only [idleSkip]; split <;> rfl
@[simp] theorem idleSkip_scrollOffset (s : State) : s.idleSkip.scrollOffset = s.scrollOffset := by
  simp only [idleSkip]; split <;> rfl
@[simp] theorem idleSkip_displayEnabled (s : State) : s.idleSkip.displayEnabled = s.displayEnabled := by
  simp only [idleSkip]; split <;> rfl
@[simp] theorem idleSkip_keySel (s : State) : s.idleSkip.keySel = s.keySel := by
  simp only [idleSkip]; split <;> rfl
@[simp] theorem idleSkip_mem (s : State) : s.idleSkip.mem = s.mem := by
  simp only [idleSkip]; split <;> rfl
@[simp] theorem idleSkip_config (s : State) : s.idleSkip.config = s.config := by
  simp only [idleSkip]; split <;> rfl
@[simp] theorem idleSkip_trace (s : State) : s.idleSkip.trace = s.trace := by
  simp only [idleSkip]; split <;> rfl
@[simp] theorem idleSkip_signal (s : State) : s.idleSkip.signal = s.signal := by
  simp only [idleSkip]; split <;> rfl
@[simp] theorem idleSkip_keypadAnswers (s : State) : s.idleSkip.keypadAnswers = s.keypadAnswers := by
  simp only [idleSkip]; split <;> rfl
@[simp] theorem idleSkip_keypadQueries (s : State) : s.idleSkip.keypadQueries = s.keypadQueries := by
  simp only [idleSkip]; split <;> rfl
@[simp] theorem recomputeScreenWindow_r (s : State) : s.recomputeScreenWindow.r = s.r := rfl
@[simp] theorem recomputeScreenWindow_d (s : State) : s.recomputeScreenWindow.d = s.d := rfl
@[simp] theorem recomputeScreenWindow_df (s : State) : s.recomputeScreenWindow.df = s.df := rfl
@[simp] theorem recomputeScreenWindow_q (s : State) : s.recomputeScreenWindow.q = s.q := rfl
@[simp] theorem recomputeScreenWindow_ie (s : State) : s.recomputeScreenWindow.ie = s.ie := rfl
@[simp] theorem recomputeScreenWindow_t (s : State) : s.recomputeScreenWindow.t = s.t := rfl
@[simp] theorem recomputeScreenWindow_x (s : State) : s.recomputeScreenWindow.x = s.x := rfl
@[simp] theorem recomputeScreenWindow_p (s : State) : s.recomputeScreenWindow.p = s.p := rfl
@[simp] theorem recomputeScreenWindow_cycles (s : State) : s.recomputeScreenWindow.cycles = s.cycles := rfl
@[simp] theorem recomputeScreenWindow_phase (s : State) : s.recomputeScreenWindow.phase = s.phase := rfl
@[simp] theorem recomputeScreenWindow_displayEnabled (s : State) : s.recomputeScreenWindow.displayEnabled = s.displayEnabled := rfl
@[simp] theorem recomputeScreenWindow_keySel (s : State) : s.recomputeScreenWindow.keySel = s.keySel := rfl
@[simp] theorem recomputeScreenWindow_mem (s : State) : s.recomputeScreenWindow.mem = s.mem := rfl
@[simp] theorem recomputeScreenWindow_config (s : State) : s.recomputeScreenWindow.config = s.config := rfl
@[simp] theorem recomputeScreenWindow_trace (s : State) : s.recomputeScreenWindow.trace = s.trace := rfl
@[simp] theorem recomputeScreenWindow_signal (s : State) : s.recomputeScreenWindow.signal = s.signal := rfl
@[simp] theorem recomputeScreenWindow_keypadAnswers (s : State) : s.recomputeScreenWindow.keypadAnswers = s.keypadAnswers := rfl
@[simp] theorem recomputeScreenWindow_keypadQueries (s : State) : s.recomputeScreenWindow.keypadQueries = s.keypadQueries := rfl
@[simp] theorem idleSkip_memRead (s : State) (w : Word) : s.idleSkip.memRead w = s.memRead w := by
  simp only [idleSkip]; split <;> rfl
@[simp] theorem recomputeScreenWindow_reg (s : State) (m : RegNo) : s.recomputeScreenWindow.reg m = s.reg m := rfl
@[simp] theorem recomputeScreenWindow_memRead (s : State) (w : Word) : s.recomputeScreenWindow.memRead w = s.memRead w := rfl

@[simp] theorem leaveActiveDisplay_d (s : State) : s.leaveActiveDisplay.d = s.d := by
  simp only [leaveActiveDisplay]; split <;> simp
@[simp] theorem leaveActiveDisplay_df (s : State) : s.leaveActiveDisplay.df = s.df := by
  simp only [leaveActiveDisplay]; split <;> simp
@[simp] theorem leaveActiveDisplay_q (s : State) : s.leaveActiveDisplay.q = s.q := by
  simp only [leaveActiveDisplay]; split <;> simp
@[simp] theorem leaveActiveDisplay_screenBase (s : State) : s.leaveActiveDisplay.screenBase = s.screenBase := by
  simp only [leaveActiveDisplay]; split <;> simp
@[simp] theorem leaveActiveDisplay_scrollOffset (s : State) : s.leaveActiveDisplay.scrollOffset = s.scrollOffset := by
  simp only [leaveActiveDisplay]; split <;> simp
@[simp] theorem leaveActiveDisplay_displayEnabled (s : State) : s.leaveActiveDisplay.displayEnabled = s.displayEnabled := by
  simp only [leaveActiveDisplay]; split <;> simp
@[simp] theorem leaveActiveDisplay_keySel (s : State) : s.leaveActiveDisplay.keySel = s.keySel := by
  simp only [leaveActiveDisplay]; split <;> simp
@[simp] theorem leaveActiveDisplay_mem (s : State) : s.leaveActiveDisplay.mem = s.mem := by
  simp only [leaveActiveDisplay]; split <;> simp
@[simp] theorem leaveActiveDisplay_config (s : State) : s.leaveActiveDisplay.config = s.config := by
  simp only [leaveActiveDisplay]; split <;> simp
@[simp] theorem leaveActiveDisplay_trace (s : State) : s.leaveActiveDisplay.trace = s.trace := by
  simp only [leaveActiveDisplay]; split <;> simp
@[simp] theorem leaveActiveDisplay_keypadAnswers (s : State) : s.leaveActiveDisplay.keypadAnswers = s.keypadAnswers := by
  simp only [leaveActiveDisplay]; split <;> simp
@[simp] theorem leaveActiveDisplay_keypadQueries (s : State) : s.leaveActiveDisplay.keypadQueries = s.keypadQueries := by
  simp only [leaveActiveDisplay]; split <;> simp
@[simp] theorem leaveActiveDisplay_phase (s : State) : s.leaveActiveDisplay.phase = .interruptPreliminary := by
  simp only [leaveActiveDisplay]; split <;> simp
@[simp] theorem leaveActiveDisplay_cycles (s : State) : s.leaveActiveDisplay.cycles = (s.config.budgetPrelim : Int) := by
  simp only [leaveActiveDisplay]; split <;> simp
@[simp] theorem leaveActiveDisplay_signal (s : State) : s.leaveActiveDisplay.signal = .activeDisplayEnded := by
  simp only [leaveActiveDisplay]; split <;> simp
@[simp] theorem leaveActiveDisplay_memRead (s : State) (w : Word) : s.leaveActiveDisplay.memRead w = s.memRead w := by
  simp only [leaveActiveDisplay]; split <;> simp

@[simp] theorem leaveInterruptPreliminary_r (s : State) :
    s.leaveInterruptPreliminary.r = s.r := rfl
@[simp] theorem leaveInterruptPreliminary_d (s : State) :
    s.leaveInterruptPreliminary.d = s.d := rfl
@[simp] theorem leaveInterruptPreliminary_df (s : State) :
    s.leaveInterruptPreliminary.df = s.df := rfl
@[simp] theorem leaveInterruptPreliminary_q (s : State) :
    s.leaveInterruptPreliminary.q = s.q := rfl
@[simp] theorem leaveInterruptPreliminary_ie (s : State) :
    s.leaveInterruptPreliminary.ie = s.ie := rfl
@[simp] theorem leaveInterruptPreliminary_t (s : State) :
    s.leaveInterruptPreliminary.t = s.t := rfl
@[simp] theorem leaveInterruptPreliminary_x (s : State) :
    s.leaveInterruptPreliminary.x = s.x := rfl
@[simp] theorem leaveInterruptPreliminary_p (s : State) :
    s.leaveInterruptPreliminary.p = s.p := rfl
@[simp] theorem leaveInterruptPreliminary_cycles (s : State) :
    s.leaveInterruptPreliminary.cycles = (s.config.budgetActive : Int) := rfl
@[simp] theorem leaveInterruptPreliminary_phase (s : State) :
    s.leaveInterruptPreliminary.phase = .activeDisplay := rfl
@[simp] theorem leaveInterruptPreliminary_screenBase (s : State) :
    s.leaveInterruptPreliminary.screenBase = (s.reg 0#4 &&& 0x0F00#16).extractLsb' 0 12 := rfl
@[simp] theorem leaveInterruptPreliminary_scrollOffset (s : State) :
    s.leaveInterruptPreliminary.scrollOffset = loByte (s.reg 0#4) := rfl
@[simp] theorem leaveInterruptPreliminary_displayEnabled (s : State) :
    s.leaveInterruptPreliminary.displayEnabled = s.displayEnabled := rfl
@[simp] theorem leaveInterruptPreliminary_keySel (s : State) :
    s.leaveInterruptPreliminary.keySel = s.keySel := rfl
@[simp] theorem leaveInterruptPreliminary_mem (s : State) :
    s.leaveInterruptPreliminary.mem = s.mem := rfl
@[simp] theorem leaveInterruptPreliminary_config (s : State) :
    s.leaveInterruptPreliminary.config = s.config := rfl
@[simp] theorem leaveInterruptPreliminary_trace (s : State) :
    s.leaveInterruptPreliminary.trace = s.trace ++ [.frameSync] := rfl
@[simp] theorem leaveInterruptPreliminary_signal (s : State) :
    s.leaveInterruptPreliminary.signal = .interruptPreliminaryEnded := rfl
@[simp] theorem leaveInterruptPreliminary_keypadAnswers (s : State) :
    s.leaveInterruptPreliminary.keypadAnswers = s.keypadAnswers := rfl
@[simp] theorem leaveInterruptPreliminary_keypadQueries (s : State) :
    s.leaveInterruptPreliminary.keypadQueries = s.keypadQueries := rfl
@[simp] theorem leaveInterruptPreliminary_memRead (s : State) (w : Word) :
    s.leaveInterruptPreliminary.memRead w = s.memRead w := rfl
@[simp] theorem leaveInterruptPreliminary_reg (s : State) (m : RegNo) :
    s.leaveInterruptPreliminary.reg m = s.reg m := rfl

/-- All the boundary check can do (R84, R312). -/
theorem boundary_cases (s : State) :
    (0 ≤ s.cycles ∧ s.boundary = s.setSignal .none) ∨
    (s.cycles < 0 ∧ s.phase = .activeDisplay ∧ s.boundary = s.leaveActiveDisplay) ∨
    (s.cycles < 0 ∧ s.phase = .interruptPreliminary ∧ s.boundary = s.leaveInterruptPreliminary) := by
  by_cases h : s.cycles < 0
  · cases hp : s.phase
    · exact .inr (.inl ⟨h, rfl, by simp only [boundary, h, if_true, phaseTransition, hp]⟩)
    · exact .inr (.inr ⟨h, rfl, by simp only [boundary, h, if_true, phaseTransition, hp]⟩)
  · exact .inl ⟨Int.not_lt.mp h, by simp only [boundary, h, if_false]⟩

end State

/-- A step that answers a next state ran its instruction to a state and checked the boundary. -/
theorem step_next {s t : State} (h : step s = .next t) :
    ∃ u, exec s.fetchInstr.1 (s.fetchInstr.2.charge s.fetchInstr.1) = .next u ∧ t = u.boundary := by
  simp only [step] at h
  cases he : exec s.fetchInstr.1 (s.fetchInstr.2.charge s.fetchInstr.1) with
  | next u =>
    rw [he] at h
    simp only [finishStep, Host.Outcome.next.injEq] at h
    exact ⟨u, rfl, h.symm⟩
  | fault f => rw [he] at h; simp [finishStep] at h
  | refused f => rw [he] at h; simp [finishStep] at h

/-! ### Branches and skips (R120, R281) -/

/-- All a short branch on a register condition can do. -/
theorem shortBranch_eq (c : Bool) (t : Byte) (s : State) :
    shortBranch c t s = s.setPc (if c then withLo (s.pc + 1#16) t else s.pc + 1#16) := by
  cases c
  · rfl
  · simp [shortBranch, branchLow, State.operandFetched, State.setPc, State.pc, State.setReg, State.reg]

/-- Writing back what `R[P]` holds changes nothing. -/
theorem setPc_self (s : State) : s.setPc s.pc = s := by
  simp [State.setPc, State.pc, State.setReg, State.reg]

/-- All a branch on an external flag can do. -/
theorem flagBranch_eq (id : Nat) (sense : Bool) (t : Byte) (s : State) :
    flagBranch id sense t s =
      ((s.operandFetched.extFlag id).2).setPc
        (if (s.operandFetched.extFlag id).1 = sense then withLo (s.pc + 1#16) t else s.pc + 1#16) := by
  by_cases h : (s.operandFetched.extFlag id).1 = sense
  · simp [flagBranch, branchLow, h]
  · have hp : ((s.operandFetched.extFlag id).2).pc = s.pc + 1#16 := by simp
    simp only [flagBranch, branchLow, beq_iff_eq, h, if_false]
    rw [← hp, setPc_self]

/-- All a long branch can do. -/
theorem longBranch_eq (c : Bool) (a : Word) (s : State) :
    longBranch c a s = s.setPc (if c then a else s.pc + 2#16) := by
  cases c <;>
    simp [longBranch, State.operandFetched, State.setPc, State.pc, State.setReg, State.reg, BitVec.add_assoc]

/-- All a long skip can do. -/
theorem longSkip_eq (c : Bool) (s : State) :
    longSkip c s = s.setPc (if c then s.pc + 2#16 else s.pc) := by
  cases c <;> simp [longSkip, State.setPc, State.pc, State.setReg, State.reg]

/-! ### The ALU primitives (R85 to R88) -/

/-- The low-byte replacement on numbers (R8, R120, R262). -/
theorem withLo_toNat (w : Word) (b : Byte) : (withLo w b).toNat = w.toNat / 256 * 256 + b.toNat := by
  have hb := b.isLt
  have hw := w.isLt
  simp only [withLo, hiByte, BitVec.toNat_append, BitVec.extractLsb'_toNat, Nat.shiftRight_eq_div_pow]
  rw [← Nat.shiftLeft_add_eq_or_of_lt (by omega)]
  omega

/-- The high-byte replacement on numbers (R8, R263). -/
theorem withHi_toNat (w : Word) (b : Byte) : (withHi w b).toNat = b.toNat * 256 + w.toNat % 256 := by
  have hb := b.isLt
  have hw := w.isLt
  simp only [withHi, loByte, BitVec.toNat_append, BitVec.extractLsb'_toNat, Nat.shiftRight_eq_div_pow]
  rw [← Nat.shiftLeft_add_eq_or_of_lt (by omega)]
  omega

/-- The `(X, P)` byte on numbers (R17, R193). -/
theorem packXP_toNat (x p : RegNo) : (packXP x p).toNat = 16 * x.toNat + p.toNat := by
  have hp := p.isLt
  simp only [packXP, BitVec.toNat_append]
  rw [← Nat.shiftLeft_add_eq_or_of_lt (by omega)]
  omega

@[simp] theorem unpackX_packXP (x p : RegNo) : unpackX (packXP x p) = x := by revert x p; decide

@[simp] theorem unpackP_packXP (x p : RegNo) : unpackP (packXP x p) = p := by revert x p; decide

/-- R85 on numbers. -/
theorem addC_spec (a b : Byte) (cin : Bool) :
    (addC a b cin).1.toNat = (a.toNat + b.toNat + cin.toNat) % 256 ∧
      ((addC a b cin).2 = true ↔ 255 < a.toNat + b.toNat + cin.toNat) := by
  simp [addC]

/-- R86 on numbers. -/
theorem subB_spec (m s : Byte) (bin : Bool) :
    (subB m s bin).1.toNat = (m.toNat + 256 - s.toNat - (1 - bin.toNat)) % 256 ∧
      ((subB m s bin).2 = true ↔ s.toNat + (1 - bin.toNat) ≤ m.toNat) := by
  have hm := m.isLt
  have hs := s.isLt
  simp only [subB, BitVec.toNat_ofInt]
  refine ⟨?_, ?_⟩ <;> cases bin <;> simp <;> omega

/-- R87 on numbers. -/
theorem shrC_spec (d : Byte) (cin rotate : Bool) :
    (shrC d cin rotate).1.toNat = d.toNat / 2 + (if rotate then 128 * cin.toNat else 0) ∧
      ((shrC d cin rotate).2 = true ↔ d.toNat % 2 = 1) := by
  have hd := d.isLt
  refine ⟨?_, ?_⟩
  · cases rotate <;> cases cin <;> simp [shrC] <;> omega
  · simp [shrC, BitVec.getLsbD, Nat.testBit]

/-- R88 on numbers. -/
theorem shlC_spec (d : Byte) (cin rotate : Bool) :
    (shlC d cin rotate).1.toNat = d.toNat * 2 % 256 + (if rotate then cin.toNat else 0) ∧
      ((shlC d cin rotate).2 = true ↔ 128 ≤ d.toNat) := by
  have hd := d.isLt
  refine ⟨?_, ?_⟩
  · cases rotate <;> cases cin <;> simp [shlC] <;> omega
  · simp only [shlC, BitVec.getLsbD, Nat.testBit_eq_decide_div_mod_eq, decide_eq_true_eq]
    omega

end Sys2Proof.Machine
end

