-- ==== Sys2Proof/Laws/PerInstr.lean ====
section
/-! SUPPORT. One family of per-instruction facts: the encoder writes as many bytes as the instruction's length
(spec/30_encoding.md R61), the first of them alone deciding that length. -/

namespace Sys2Proof.Laws.EncodedLength

/-- The encoding of `i` has the length R61 gives its opcode. -/
def Statement (i : Instr) : Prop := (encode i).length = i.length

theorem idl : Statement .idl := rfl
theorem ldn1 : Statement .ldn1 := rfl
theorem ldn2 : Statement .ldn2 := rfl
theorem ldn3 : Statement .ldn3 := rfl
theorem ldn4 : Statement .ldn4 := rfl
theorem ldn5 : Statement .ldn5 := rfl
theorem ldn6 : Statement .ldn6 := rfl
theorem ldn7 : Statement .ldn7 := rfl
theorem ldn8 : Statement .ldn8 := rfl
theorem ldn9 : Statement .ldn9 := rfl
theorem ldnA : Statement .ldnA := rfl
theorem ldnB : Statement .ldnB := rfl
theorem ldnC : Statement .ldnC := rfl
theorem ldnD : Statement .ldnD := rfl
theorem ldnE : Statement .ldnE := rfl
theorem ldnF : Statement .ldnF := rfl
theorem inc0 : Statement .inc0 := rfl
theorem inc1 : Statement .inc1 := rfl
theorem inc2 : Statement .inc2 := rfl
theorem inc3 : Statement .inc3 := rfl
theorem inc4 : Statement .inc4 := rfl
theorem inc5 : Statement .inc5 := rfl
theorem inc6 : Statement .inc6 := rfl
theorem inc7 : Statement .inc7 := rfl
theorem inc8 : Statement .inc8 := rfl
theorem inc9 : Statement .inc9 := rfl
theorem incA : Statement .incA := rfl
theorem incB : Statement .incB := rfl
theorem incC : Statement .incC := rfl
theorem incD : Statement .incD := rfl
theorem incE : Statement .incE := rfl
theorem incF : Statement .incF := rfl
theorem dec0 : Statement .dec0 := rfl
theorem dec1 : Statement .dec1 := rfl
theorem dec2 : Statement .dec2 := rfl
theorem dec3 : Statement .dec3 := rfl
theorem dec4 : Statement .dec4 := rfl
theorem dec5 : Statement .dec5 := rfl
theorem dec6 : Statement .dec6 := rfl
theorem dec7 : Statement .dec7 := rfl
theorem dec8 : Statement .dec8 := rfl
theorem dec9 : Statement .dec9 := rfl
theorem decA : Statement .decA := rfl
theorem decB : Statement .decB := rfl
theorem decC : Statement .decC := rfl
theorem decD : Statement .decD := rfl
theorem decE : Statement .decE := rfl
theorem decF : Statement .decF := rfl
theorem br (b : Byte) : Statement (.br b) := rfl
theorem bq (b : Byte) : Statement (.bq b) := rfl
theorem bz (b : Byte) : Statement (.bz b) := rfl
theorem bdf (b : Byte) : Statement (.bdf b) := rfl
theorem b1 (b : Byte) : Statement (.b1 b) := rfl
theorem b2 (b : Byte) : Statement (.b2 b) := rfl
theorem b3 (b : Byte) : Statement (.b3 b) := rfl
theorem b4 (b : Byte) : Statement (.b4 b) := rfl
theorem skp (b : Byte) : Statement (.skp b) := rfl
theorem bnq (b : Byte) : Statement (.bnq b) := rfl
theorem bnz (b : Byte) : Statement (.bnz b) := rfl
theorem bnf (b : Byte) : Statement (.bnf b) := rfl
theorem bn1 (b : Byte) : Statement (.bn1 b) := rfl
theorem bn2 (b : Byte) : Statement (.bn2 b) := rfl
theorem bn3 (b : Byte) : Statement (.bn3 b) := rfl
theorem bn4 (b : Byte) : Statement (.bn4 b) := rfl
theorem lda0 : Statement .lda0 := rfl
theorem lda1 : Statement .lda1 := rfl
theorem lda2 : Statement .lda2 := rfl
theorem lda3 : Statement .lda3 := rfl
theorem lda4 : Statement .lda4 := rfl
theorem lda5 : Statement .lda5 := rfl
theorem lda6 : Statement .lda6 := rfl
theorem lda7 : Statement .lda7 := rfl
theorem lda8 : Statement .lda8 := rfl
theorem lda9 : Statement .lda9 := rfl
theorem ldaA : Statement .ldaA := rfl
theorem ldaB : Statement .ldaB := rfl
theorem ldaC : Statement .ldaC := rfl
theorem ldaD : Statement .ldaD := rfl
theorem ldaE : Statement .ldaE := rfl
theorem ldaF : Statement .ldaF := rfl
theorem str0 : Statement .str0 := rfl
theorem str1 : Statement .str1 := rfl
theorem str2 : Statement .str2 := rfl
theorem str3 : Statement .str3 := rfl
theorem str4 : Statement .str4 := rfl
theorem str5 : Statement .str5 := rfl
theorem str6 : Statement .str6 := rfl
theorem str7 : Statement .str7 := rfl
theorem str8 : Statement .str8 := rfl
theorem str9 : Statement .str9 := rfl
theorem strA : Statement .strA := rfl
theorem strB : Statement .strB := rfl
theorem strC : Statement .strC := rfl
theorem strD : Statement .strD := rfl
theorem strE : Statement .strE := rfl
theorem strF : Statement .strF := rfl
theorem irx : Statement .irx := rfl
theorem out1 : Statement .out1 := rfl
theorem out2 : Statement .out2 := rfl
theorem out3 : Statement .out3 := rfl
theorem out4 : Statement .out4 := rfl
theorem out5 : Statement .out5 := rfl
theorem out6 : Statement .out6 := rfl
theorem out7 : Statement .out7 := rfl
theorem x68 : Statement .x68 := rfl
theorem inp1 : Statement .inp1 := rfl
theorem inp2 : Statement .inp2 := rfl
theorem inp3 : Statement .inp3 := rfl
theorem inp4 : Statement .inp4 := rfl
theorem inp5 : Statement .inp5 := rfl
theorem inp6 : Statement .inp6 := rfl
theorem inp7 : Statement .inp7 := rfl
theorem ret : Statement .ret := rfl
theorem dis : Statement .dis := rfl
theorem ldxa : Statement .ldxa := rfl
theorem stxd : Statement .stxd := rfl
theorem adc : Statement .adc := rfl
theorem sdb : Statement .sdb := rfl
theorem shrc : Statement .shrc := rfl
theorem smb : Statement .smb := rfl
theorem sav : Statement .sav := rfl
theorem mark : Statement .mark := rfl
theorem req : Statement .req := rfl
theorem seq : Statement .seq := rfl
theorem adci (b : Byte) : Statement (.adci b) := rfl
theorem sdbi (b : Byte) : Statement (.sdbi b) := rfl
theorem shlc : Statement .shlc := rfl
theorem smbi (b : Byte) : Statement (.smbi b) := rfl
theorem glo0 : Statement .glo0 := rfl
theorem glo1 : Statement .glo1 := rfl
theorem glo2 : Statement .glo2 := rfl
theorem glo3 : Statement .glo3 := rfl
theorem glo4 : Statement .glo4 := rfl
theorem glo5 : Statement .glo5 := rfl
theorem glo6 : Statement .glo6 := rfl
theorem glo7 : Statement .glo7 := rfl
theorem glo8 : Statement .glo8 := rfl
theorem glo9 : Statement .glo9 := rfl
theorem gloA : Statement .gloA := rfl
theorem gloB : Statement .gloB := rfl
theorem gloC : Statement .gloC := rfl
theorem gloD : Statement .gloD := rfl
theorem gloE : Statement .gloE := rfl
theorem gloF : Statement .gloF := rfl
theorem ghi0 : Statement .ghi0 := rfl
theorem ghi1 : Statement .ghi1 := rfl
theorem ghi2 : Statement .ghi2 := rfl
theorem ghi3 : Statement .ghi3 := rfl
theorem ghi4 : Statement .ghi4 := rfl
theorem ghi5 : Statement .ghi5 := rfl
theorem ghi6 : Statement .ghi6 := rfl
theorem ghi7 : Statement .ghi7 := rfl
theorem ghi8 : Statement .ghi8 := rfl
theorem ghi9 : Statement .ghi9 := rfl
theorem ghiA : Statement .ghiA := rfl
theorem ghiB : Statement .ghiB := rfl
theorem ghiC : Statement .ghiC := rfl
theorem ghiD : Statement .ghiD := rfl
theorem ghiE : Statement .ghiE := rfl
theorem ghiF : Statement .ghiF := rfl
theorem plo0 : Statement .plo0 := rfl
theorem plo1 : Statement .plo1 := rfl
theorem plo2 : Statement .plo2 := rfl
theorem plo3 : Statement .plo3 := rfl
theorem plo4 : Statement .plo4 := rfl
theorem plo5 : Statement .plo5 := rfl
theorem plo6 : Statement .plo6 := rfl
theorem plo7 : Statement .plo7 := rfl
theorem plo8 : Statement .plo8 := rfl
theorem plo9 : Statement .plo9 := rfl
theorem ploA : Statement .ploA := rfl
theorem ploB : Statement .ploB := rfl
theorem ploC : Statement .ploC := rfl
theorem ploD : Statement .ploD := rfl
theorem ploE : Statement .ploE := rfl
theorem ploF : Statement .ploF := rfl
theorem phi0 : Statement .phi0 := rfl
theorem phi1 : Statement .phi1 := rfl
theorem phi2 : Statement .phi2 := rfl
theorem phi3 : Statement .phi3 := rfl
theorem phi4 : Statement .phi4 := rfl
theorem phi5 : Statement .phi5 := rfl
theorem phi6 : Statement .phi6 := rfl
theorem phi7 : Statement .phi7 := rfl
theorem phi8 : Statement .phi8 := rfl
theorem phi9 : Statement .phi9 := rfl
theorem phiA : Statement .phiA := rfl
theorem phiB : Statement .phiB := rfl
theorem phiC : Statement .phiC := rfl
theorem phiD : Statement .phiD := rfl
theorem phiE : Statement .phiE := rfl
theorem phiF : Statement .phiF := rfl
theorem lbr (b : Word) : Statement (.lbr b) := rfl
theorem lbq (b : Word) : Statement (.lbq b) := rfl
theorem lbz (b : Word) : Statement (.lbz b) := rfl
theorem lbdf (b : Word) : Statement (.lbdf b) := rfl
theorem nop : Statement .nop := rfl
theorem lsnq : Statement .lsnq := rfl
theorem lsnz : Statement .lsnz := rfl
theorem lsnf : Statement .lsnf := rfl
theorem lskp : Statement .lskp := rfl
theorem lbnq (b : Word) : Statement (.lbnq b) := rfl
theorem lbnz (b : Word) : Statement (.lbnz b) := rfl
theorem lbnf (b : Word) : Statement (.lbnf b) := rfl
theorem lsie : Statement .lsie := rfl
theorem lsq : Statement .lsq := rfl
theorem lsz : Statement .lsz := rfl
theorem lsdf : Statement .lsdf := rfl
theorem sep0 : Statement .sep0 := rfl
theorem sep1 : Statement .sep1 := rfl
theorem sep2 : Statement .sep2 := rfl
theorem sep3 : Statement .sep3 := rfl
theorem sep4 : Statement .sep4 := rfl
theorem sep5 : Statement .sep5 := rfl
theorem sep6 : Statement .sep6 := rfl
theorem sep7 : Statement .sep7 := rfl
theorem sep8 : Statement .sep8 := rfl
theorem sep9 : Statement .sep9 := rfl
theorem sepA : Statement .sepA := rfl
theorem sepB : Statement .sepB := rfl
theorem sepC : Statement .sepC := rfl
theorem sepD : Statement .sepD := rfl
theorem sepE : Statement .sepE := rfl
theorem sepF : Statement .sepF := rfl
theorem sex0 : Statement .sex0 := rfl
theorem sex1 : Statement .sex1 := rfl
theorem sex2 : Statement .sex2 := rfl
theorem sex3 : Statement .sex3 := rfl
theorem sex4 : Statement .sex4 := rfl
theorem sex5 : Statement .sex5 := rfl
theorem sex6 : Statement .sex6 := rfl
theorem sex7 : Statement .sex7 := rfl
theorem sex8 : Statement .sex8 := rfl
theorem sex9 : Statement .sex9 := rfl
theorem sexA : Statement .sexA := rfl
theorem sexB : Statement .sexB := rfl
theorem sexC : Statement .sexC := rfl
theorem sexD : Statement .sexD := rfl
theorem sexE : Statement .sexE := rfl
theorem sexF : Statement .sexF := rfl
theorem ldx : Statement .ldx := rfl
theorem or : Statement .or := rfl
theorem and : Statement .and := rfl
theorem xor : Statement .xor := rfl
theorem add : Statement .add := rfl
theorem sd : Statement .sd := rfl
theorem shr : Statement .shr := rfl
theorem sm : Statement .sm := rfl
theorem ldi (b : Byte) : Statement (.ldi b) := rfl
theorem ori (b : Byte) : Statement (.ori b) := rfl
theorem ani (b : Byte) : Statement (.ani b) := rfl
theorem xri (b : Byte) : Statement (.xri b) := rfl
theorem adi (b : Byte) : Statement (.adi b) := rfl
theorem sdi (b : Byte) : Statement (.sdi b) := rfl
theorem shl : Statement .shl := rfl
theorem smi (b : Byte) : Statement (.smi b) := rfl

end Sys2Proof.Laws.EncodedLength
end

