-- ==== Sys2Proof/Tests/Slice0.lean ====
section
/-! SUPPORT. The author's tests: ill-formed assembler lines are refused; every constructor's decoding from a word written
out bit by bit from the opcode map (spec/30_encoding.md R66, lengths R61); one step of the examples the rules give
("Example:" in files 41 to 47, spec/95_test_vectors.md); and witnesses that the hypotheses of the statements can be met,
at the boundaries of their clauses. A statement whose only hypothesis is membership in a list written out in it has the
list's members as witnesses. -/

namespace Sys2Proof.Tests

open Sys2Proof.Machine

/-! ### Well-formedness: each check refuses (R68, R69) -/

theorem test_wf_refuses_register_16 : (Asm.reg .inc 16).wellFormed = false := by decide
theorem test_wf_refuses_ldn_0 : (Asm.reg .ldn 0).wellFormed = false := by decide
theorem test_wf_refuses_port_0 : (Asm.port .out 0).wellFormed = false := by decide
theorem test_wf_refuses_port_8 : (Asm.port .inp 8).wellFormed = false := by decide
theorem test_wf_refuses_immediate_256 : (Asm.imm .ldi 256).wellFormed = false := by decide
theorem test_wf_refuses_short_target_256 : (Asm.short .br 256).wellFormed = false := by decide
theorem test_wf_refuses_long_target_65536 : (Asm.long .lbr 65536).wellFormed = false := by decide
theorem test_wf_refuses_label_in_other_page : shortLabelOk 0x04FE#16 0x0420#16 = false := by decide
theorem test_wf_admits_largest_operands :
    ([Asm.reg .ldn 15, .port .out 7, .imm .ldi 255, .short .br 255, .long .lbr 65535, .plain .nop].all
      Asm.wellFormed) = true := by decide
theorem test_refused_line_has_no_instruction : (Asm.reg .ldn 0).instr? = none := by decide

/-! ### Decoding: words written out from the opcode map

The operand byte is 0xA5 in the two-byte forms, the operands 0x12, 0x34 in the three-byte forms, so that the target of a
long branch is 0x1234 (R64: high byte first). Bit 0 is the least significant bit of the first byte. -/

/-- Every row's word (its length in bits, the word, the instruction) decodes to the row's instruction. -/
def decodeAll (rows : List (Nat × Nat × Instr)) : Bool :=
  rows.all fun q => decodeTableWord q.1 q.2.1 == some q.2.2

theorem test_decode_0x : decodeAll
    [(8, 0b00000000, .idl), (8, 0b00000001, .ldn1), (8, 0b00000010, .ldn2),
     (8, 0b00000011, .ldn3), (8, 0b00000100, .ldn4), (8, 0b00000101, .ldn5),
     (8, 0b00000110, .ldn6), (8, 0b00000111, .ldn7), (8, 0b00001000, .ldn8),
     (8, 0b00001001, .ldn9), (8, 0b00001010, .ldnA), (8, 0b00001011, .ldnB),
     (8, 0b00001100, .ldnC), (8, 0b00001101, .ldnD), (8, 0b00001110, .ldnE),
     (8, 0b00001111, .ldnF)] = true := by decide

theorem test_decode_1x : decodeAll
    [(8, 0b00010000, .inc0), (8, 0b00010001, .inc1), (8, 0b00010010, .inc2),
     (8, 0b00010011, .inc3), (8, 0b00010100, .inc4), (8, 0b00010101, .inc5),
     (8, 0b00010110, .inc6), (8, 0b00010111, .inc7), (8, 0b00011000, .inc8),
     (8, 0b00011001, .inc9), (8, 0b00011010, .incA), (8, 0b00011011, .incB),
     (8, 0b00011100, .incC), (8, 0b00011101, .incD), (8, 0b00011110, .incE),
     (8, 0b00011111, .incF)] = true := by decide

theorem test_decode_2x : decodeAll
    [(8, 0b00100000, .dec0), (8, 0b00100001, .dec1), (8, 0b00100010, .dec2),
     (8, 0b00100011, .dec3), (8, 0b00100100, .dec4), (8, 0b00100101, .dec5),
     (8, 0b00100110, .dec6), (8, 0b00100111, .dec7), (8, 0b00101000, .dec8),
     (8, 0b00101001, .dec9), (8, 0b00101010, .decA), (8, 0b00101011, .decB),
     (8, 0b00101100, .decC), (8, 0b00101101, .decD), (8, 0b00101110, .decE),
     (8, 0b00101111, .decF)] = true := by decide

theorem test_decode_3x : decodeAll
    [(16, 0b1010010100110000, .br 0xA5#8), (16, 0b1010010100110001, .bq 0xA5#8), (16, 0b1010010100110010, .bz 0xA5#8),
     (16, 0b1010010100110011, .bdf 0xA5#8), (16, 0b1010010100110100, .b1 0xA5#8), (16, 0b1010010100110101, .b2 0xA5#8),
     (16, 0b1010010100110110, .b3 0xA5#8), (16, 0b1010010100110111, .b4 0xA5#8), (16, 0b1010010100111000, .skp 0xA5#8),
     (16, 0b1010010100111001, .bnq 0xA5#8), (16, 0b1010010100111010, .bnz 0xA5#8), (16, 0b1010010100111011, .bnf 0xA5#8),
     (16, 0b1010010100111100, .bn1 0xA5#8), (16, 0b1010010100111101, .bn2 0xA5#8), (16, 0b1010010100111110, .bn3 0xA5#8),
     (16, 0b1010010100111111, .bn4 0xA5#8)] = true := by decide

theorem test_decode_4x : decodeAll
    [(8, 0b01000000, .lda0), (8, 0b01000001, .lda1), (8, 0b01000010, .lda2),
     (8, 0b01000011, .lda3), (8, 0b01000100, .lda4), (8, 0b01000101, .lda5),
     (8, 0b01000110, .lda6), (8, 0b01000111, .lda7), (8, 0b01001000, .lda8),
     (8, 0b01001001, .lda9), (8, 0b01001010, .ldaA), (8, 0b01001011, .ldaB),
     (8, 0b01001100, .ldaC), (8, 0b01001101, .ldaD), (8, 0b01001110, .ldaE),
     (8, 0b01001111, .ldaF)] = true := by decide

theorem test_decode_5x : decodeAll
    [(8, 0b01010000, .str0), (8, 0b01010001, .str1), (8, 0b01010010, .str2),
     (8, 0b01010011, .str3), (8, 0b01010100, .str4), (8, 0b01010101, .str5),
     (8, 0b01010110, .str6), (8, 0b01010111, .str7), (8, 0b01011000, .str8),
     (8, 0b01011001, .str9), (8, 0b01011010, .strA), (8, 0b01011011, .strB),
     (8, 0b01011100, .strC), (8, 0b01011101, .strD), (8, 0b01011110, .strE),
     (8, 0b01011111, .strF)] = true := by decide

theorem test_decode_6x : decodeAll
    [(8, 0b01100000, .irx), (8, 0b01100001, .out1), (8, 0b01100010, .out2),
     (8, 0b01100011, .out3), (8, 0b01100100, .out4), (8, 0b01100101, .out5),
     (8, 0b01100110, .out6), (8, 0b01100111, .out7), (8, 0b01101000, .x68),
     (8, 0b01101001, .inp1), (8, 0b01101010, .inp2), (8, 0b01101011, .inp3),
     (8, 0b01101100, .inp4), (8, 0b01101101, .inp5), (8, 0b01101110, .inp6),
     (8, 0b01101111, .inp7)] = true := by decide

theorem test_decode_7x : decodeAll
    [(8, 0b01110000, .ret), (8, 0b01110001, .dis), (8, 0b01110010, .ldxa),
     (8, 0b01110011, .stxd), (8, 0b01110100, .adc), (8, 0b01110101, .sdb),
     (8, 0b01110110, .shrc), (8, 0b01110111, .smb), (8, 0b01111000, .sav),
     (8, 0b01111001, .mark), (8, 0b01111010, .req), (8, 0b01111011, .seq),
     (16, 0b1010010101111100, .adci 0xA5#8), (16, 0b1010010101111101, .sdbi 0xA5#8), (8, 0b01111110, .shlc),
     (16, 0b1010010101111111, .smbi 0xA5#8)] = true := by decide

theorem test_decode_8x : decodeAll
    [(8, 0b10000000, .glo0), (8, 0b10000001, .glo1), (8, 0b10000010, .glo2),
     (8, 0b10000011, .glo3), (8, 0b10000100, .glo4), (8, 0b10000101, .glo5),
     (8, 0b10000110, .glo6), (8, 0b10000111, .glo7), (8, 0b10001000, .glo8),
     (8, 0b10001001, .glo9), (8, 0b10001010, .gloA), (8, 0b10001011, .gloB),
     (8, 0b10001100, .gloC), (8, 0b10001101, .gloD), (8, 0b10001110, .gloE),
     (8, 0b10001111, .gloF)] = true := by decide

theorem test_decode_9x : decodeAll
    [(8, 0b10010000, .ghi0), (8, 0b10010001, .ghi1), (8, 0b10010010, .ghi2),
     (8, 0b10010011, .ghi3), (8, 0b10010100, .ghi4), (8, 0b10010101, .ghi5),
     (8, 0b10010110, .ghi6), (8, 0b10010111, .ghi7), (8, 0b10011000, .ghi8),
     (8, 0b10011001, .ghi9), (8, 0b10011010, .ghiA), (8, 0b10011011, .ghiB),
     (8, 0b10011100, .ghiC), (8, 0b10011101, .ghiD), (8, 0b10011110, .ghiE),
     (8, 0b10011111, .ghiF)] = true := by decide

theorem test_decode_Ax : decodeAll
    [(8, 0b10100000, .plo0), (8, 0b10100001, .plo1), (8, 0b10100010, .plo2),
     (8, 0b10100011, .plo3), (8, 0b10100100, .plo4), (8, 0b10100101, .plo5),
     (8, 0b10100110, .plo6), (8, 0b10100111, .plo7), (8, 0b10101000, .plo8),
     (8, 0b10101001, .plo9), (8, 0b10101010, .ploA), (8, 0b10101011, .ploB),
     (8, 0b10101100, .ploC), (8, 0b10101101, .ploD), (8, 0b10101110, .ploE),
     (8, 0b10101111, .ploF)] = true := by decide

theorem test_decode_Bx : decodeAll
    [(8, 0b10110000, .phi0), (8, 0b10110001, .phi1), (8, 0b10110010, .phi2),
     (8, 0b10110011, .phi3), (8, 0b10110100, .phi4), (8, 0b10110101, .phi5),
     (8, 0b10110110, .phi6), (8, 0b10110111, .phi7), (8, 0b10111000, .phi8),
     (8, 0b10111001, .phi9), (8, 0b10111010, .phiA), (8, 0b10111011, .phiB),
     (8, 0b10111100, .phiC), (8, 0b10111101, .phiD), (8, 0b10111110, .phiE),
     (8, 0b10111111, .phiF)] = true := by decide

theorem test_decode_Cx : decodeAll
    [(24, 0b001101000001001011000000, .lbr 0x1234#16), (24, 0b001101000001001011000001, .lbq 0x1234#16), (24, 0b001101000001001011000010, .lbz 0x1234#16),
     (24, 0b001101000001001011000011, .lbdf 0x1234#16), (8, 0b11000100, .nop), (8, 0b11000101, .lsnq),
     (8, 0b11000110, .lsnz), (8, 0b11000111, .lsnf), (8, 0b11001000, .lskp),
     (24, 0b001101000001001011001001, .lbnq 0x1234#16), (24, 0b001101000001001011001010, .lbnz 0x1234#16), (24, 0b001101000001001011001011, .lbnf 0x1234#16),
     (8, 0b11001100, .lsie), (8, 0b11001101, .lsq), (8, 0b11001110, .lsz),
     (8, 0b11001111, .lsdf)] = true := by decide

theorem test_decode_Dx : decodeAll
    [(8, 0b11010000, .sep0), (8, 0b11010001, .sep1), (8, 0b11010010, .sep2),
     (8, 0b11010011, .sep3), (8, 0b11010100, .sep4), (8, 0b11010101, .sep5),
     (8, 0b11010110, .sep6), (8, 0b11010111, .sep7), (8, 0b11011000, .sep8),
     (8, 0b11011001, .sep9), (8, 0b11011010, .sepA), (8, 0b11011011, .sepB),
     (8, 0b11011100, .sepC), (8, 0b11011101, .sepD), (8, 0b11011110, .sepE),
     (8, 0b11011111, .sepF)] = true := by decide

theorem test_decode_Ex : decodeAll
    [(8, 0b11100000, .sex0), (8, 0b11100001, .sex1), (8, 0b11100010, .sex2),
     (8, 0b11100011, .sex3), (8, 0b11100100, .sex4), (8, 0b11100101, .sex5),
     (8, 0b11100110, .sex6), (8, 0b11100111, .sex7), (8, 0b11101000, .sex8),
     (8, 0b11101001, .sex9), (8, 0b11101010, .sexA), (8, 0b11101011, .sexB),
     (8, 0b11101100, .sexC), (8, 0b11101101, .sexD), (8, 0b11101110, .sexE),
     (8, 0b11101111, .sexF)] = true := by decide

theorem test_decode_Fx : decodeAll
    [(8, 0b11110000, .ldx), (8, 0b11110001, .or), (8, 0b11110010, .and),
     (8, 0b11110011, .xor), (8, 0b11110100, .add), (8, 0b11110101, .sd),
     (8, 0b11110110, .shr), (8, 0b11110111, .sm), (16, 0b1010010111111000, .ldi 0xA5#8),
     (16, 0b1010010111111001, .ori 0xA5#8), (16, 0b1010010111111010, .ani 0xA5#8), (16, 0b1010010111111011, .xri 0xA5#8),
     (16, 0b1010010111111100, .adi 0xA5#8), (16, 0b1010010111111101, .sdi 0xA5#8), (8, 0b11111110, .shl),
     (16, 0b1010010111111111, .smi 0xA5#8)] = true := by decide

/-- Fewer bytes than the instruction has are refused by name. -/
theorem test_decode_refuses_truncated_input :
    decode [] = .error .noOpcode ∧ decode [0x30#8] = .error (.missingOperand 0x30#8) ∧
      decode [0xC0#8, 0x06#8] = .error (.missingOperand 0xC0#8) ∧ decodeTableWord 8 0x05 = some .ldn5 :=
  ⟨rfl, rfl, rfl, by decide⟩

/-! ### One step -/

/-- What a step answers, if it is a next state. -/
def next? : Result → Option State
  | .next t => some t
  | .fault _ => none
  | .refused _ => none

/-- A machine at the opcode address `pc`, held in `R[3]` with `P = 3` and `X = 2`, with `code` there. -/
def codeAt (pc : Word) (code : List Byte) : State :=
  (({ State.reset with mem := placeBytes [] pc code }.setP 3#4).setX 2#4).setReg 3#4 pc

/-- `s` with one more byte of memory. -/
def withByte (s : State) (a : Word) (v : Byte) : State := { s with mem := placeBytes s.mem a [v] }

/-- `R[P]` after one step. -/
def pcAfter (s : State) : Option Nat := (next? (step s)).map fun t => t.pc.toNat

/-- `D` and `DF` after one step. -/
def accAfter (s : State) : Option (Nat × Bool) := (next? (step s)).map fun t => (t.d.toNat, t.df)

/-- The byte of cell `a` after one step. -/
def cellAfter (s : State) (a : Word) : Option Nat := (next? (step s)).map fun t => (t.memRead a).toNat

/-- Register `n` after one step. -/
def regAfter (s : State) (n : RegNo) : Option Nat := (next? (step s)).map fun t => (t.reg n).toNat

/-- The step the host's query runs is that of the placed word, as the first after reset. -/
theorem test_withFetchWord_runs_the_word :
    accAfter (State.reset.withFetchWord 16 0x12F8) = some (0x12, false) := by decide

theorem test_withFetchWord_fetches_the_word :
    (State.reset.withFetchWord 24 0x8006C0).nextInstr = .lbr 0x0680#16 := by decide

theorem test_idl_stays :
    (next? (step ((codeAt 0x0456#16 [0x00#8]).setCycles 100))).map (fun t => (t.pc.toNat, t.cycles)) = some (0x0456, 98) := by decide

theorem test_ldn5 :
    accAfter ((withByte (codeAt 0x0410#16 [0x05#8]) 0x0812#16 0x7E#8).setReg 5#4 0x0812#16) = some (0x7E, false) := by decide

theorem test_inc4 :
    regAfter ((codeAt 0x0410#16 [0x14#8]).setReg 4#4 0x08FF#16) 4#4 = some 0x0900 := by decide

theorem test_dec_wraps :
    regAfter ((codeAt 0x0410#16 [0x24#8]).setReg 4#4 0x0000#16) 4#4 = some 0xFFFF := by decide

theorem test_inc_of_the_program_counter :
    pcAfter (codeAt 0x0410#16 [0x13#8]) = some 0x0412 := by decide

theorem test_lda6 :
    (next? (step ((withByte (codeAt 0x0410#16 [0x46#8]) 0x0400#16 0xF8#8).setReg 6#4 0x0400#16))).map
      (fun t => (t.d.toNat, (t.reg 6#4).toNat)) = some (0xF8, 0x0401) := by decide

theorem test_lda_of_the_program_counter_skips :
    pcAfter (codeAt 0x0410#16 [0x43#8, 0x99#8]) = some 0x0412 := by decide

theorem test_str7_in_ram :
    cellAfter (((codeAt 0x0410#16 [0x57#8]).setReg 7#4 0x0850#16).setD 0xAB#8) 0x0850#16 = some 0xAB := by decide

theorem test_str7_outside_ram :
    cellAfter (((codeAt 0x0410#16 [0x57#8]).setReg 7#4 0x0500#16).setD 0xAB#8) 0x0500#16 = some 0x00 := by decide

theorem test_str_masks_the_address :
    cellAfter (((codeAt 0x0410#16 [0x57#8]).setReg 7#4 0xF850#16).setD 0xAB#8) 0x0850#16 = some 0xAB := by decide

theorem test_ldxa :
    (next? (step ((withByte (codeAt 0x0410#16 [0x72#8]) 0x08FE#16 0x33#8).setReg 2#4 0x08FE#16))).map
      (fun t => (t.d.toNat, (t.reg 2#4).toNat)) = some (0x33, 0x08FF) := by decide

theorem test_stxd :
    (next? (step (((codeAt 0x0410#16 [0x73#8]).setReg 2#4 0x08FF#16).setD 0x33#8))).map
      (fun t => ((t.memRead 0x08FF#16).toNat, (t.reg 2#4).toNat)) = some (0x33, 0x08FE) := by decide

theorem test_irx :
    regAfter ((codeAt 0x0410#16 [0x60#8]).setReg 2#4 0x08FE#16) 2#4 = some 0x08FF := by decide

theorem test_out2 :
    (next? (step ((withByte (codeAt 0x0410#16 [0x62#8]) 0x0900#16 0x07#8).setReg 2#4 0x0900#16))).map
      (fun t => (t.trace, t.keySel.toNat, (t.reg 2#4).toNat)) = some ([.portOut 2#3 0x07#8], 7, 0x0901) := by decide

theorem test_out1_clears_the_display :
    (next? (step ((codeAt 0x0410#16 [0x61#8]).setDisplay true))).map (fun t => t.displayEnabled) = some false := by decide

theorem test_x68_only_advances :
    pcAfter (codeAt 0x0410#16 [0x68#8]) = some 0x0411 := by decide

theorem test_inp1 :
    (next? (step (((withByte (codeAt 0x0410#16 [0x69#8]) 0x08F0#16 0x55#8).setReg 2#4 0x08F0#16).setD 0x99#8))).map
      (fun t => (t.displayEnabled, (t.memRead 0x08F0#16).toNat, t.d.toNat, (t.reg 2#4).toNat)) =
    some (true, 0x00, 0x00, 0x08F0) := by decide

theorem test_br :
    pcAfter (codeAt 0x0410#16 [0x30#8, 0x55#8]) = some 0x0455 := by decide

theorem test_br_page_of_an_operand_at_the_end_of_a_page :
    pcAfter (codeAt 0x04FE#16 [0x30#8, 0x20#8]) = some 0x0520 := by decide

theorem test_bq_taken :
    pcAfter ((codeAt 0x0410#16 [0x31#8, 0x80#8]).setQ true) = some 0x0480 := by decide

theorem test_bz_not_taken :
    pcAfter ((codeAt 0x0620#16 [0x32#8, 0x00#8]).setD 0x01#8) = some 0x0622 := by decide

theorem test_bz_taken :
    pcAfter (codeAt 0x0620#16 [0x32#8, 0x00#8]) = some 0x0600 := by decide

theorem test_bdf_not_taken :
    pcAfter (codeAt 0x0410#16 [0x33#8, 0x40#8]) = some 0x0412 := by decide

theorem test_b1_taken :
    pcAfter (codeAt 0x0410#16 [0x34#8, 0x22#8]) = some 0x0422 := by decide

theorem test_b2_not_taken :
    pcAfter (codeAt 0x0410#16 [0x35#8, 0x22#8]) = some 0x0412 := by decide

theorem test_b3_answer_1 :
    (next? (step { codeAt 0x0410#16 [0x36#8, 0x30#8] with keypadAnswers := [true] })).map
      (fun t => (t.trace, t.pc.toNat)) = some ([.keypadSelect .pad1], 0x0430) := by decide

theorem test_b4_answer_0 :
    (next? (step { codeAt 0x0410#16 [0x37#8, 0x30#8] with keypadAnswers := [false] })).map
      (fun t => (t.trace, t.pc.toNat)) = some ([.keypadSelect .pad2], 0x0412) := by decide

theorem test_skp :
    pcAfter (codeAt 0x0410#16 [0x38#8, 0xFF#8]) = some 0x0412 := by decide

theorem test_bnq_taken :
    pcAfter (codeAt 0x0410#16 [0x39#8, 0x80#8]) = some 0x0480 := by decide

theorem test_bnz_taken :
    pcAfter ((codeAt 0x0410#16 [0x3A#8, 0x08#8]).setD 0x05#8) = some 0x0408 := by decide

theorem test_bnf_taken :
    pcAfter (codeAt 0x0410#16 [0x3B#8, 0x40#8]) = some 0x0440 := by decide

theorem test_bn1_not_taken :
    pcAfter (codeAt 0x0410#16 [0x3C#8, 0x22#8]) = some 0x0412 := by decide

theorem test_bn3_answer_0 :
    pcAfter { codeAt 0x0410#16 [0x3E#8, 0x10#8] with keypadAnswers := [false] } = some 0x0410 := by decide

theorem test_bn4_answer_1 :
    pcAfter { codeAt 0x0410#16 [0x3F#8, 0x10#8] with keypadAnswers := [true] } = some 0x0412 := by decide

theorem test_ret :
    (next? (step (((withByte (codeAt 0x0410#16 [0x70#8]) 0x08FE#16 0x23#8).setReg 2#4 0x08FE#16).setIE false))).map
      (fun t => ((t.reg 2#4).toNat, t.x.toNat, t.p.toNat, t.ie)) = some (0x08FF, 2, 3, true) := by decide

theorem test_dis :
    (next? (step ((withByte (codeAt 0x0410#16 [0x71#8]) 0x0403#16 0x00#8).setReg 2#4 0x0403#16))).map
      (fun t => ((t.reg 2#4).toNat, t.x.toNat, t.p.toNat, t.ie)) = some (0x0404, 0, 0, false) := by decide

theorem test_sav :
    cellAfter (((codeAt 0x0410#16 [0x78#8]).setReg 2#4 0x08FE#16).setT 0x23#8) 0x08FE#16 = some 0x23 := by decide

theorem test_mark :
    (next? (step (((codeAt 0x0410#16 [0x79#8]).setReg 2#4 0x08FF#16).setX 5#4))).map
      (fun t => (t.t.toNat, (t.memRead 0x08FF#16).toNat, t.x.toNat, (t.reg 2#4).toNat)) =
    some (0x53, 0x53, 3, 0x08FE) := by decide

theorem test_req_emits_the_change :
    (next? (step ((codeAt 0x0410#16 [0x7A#8]).setQ true))).map (fun t => (t.q, t.trace)) =
    some (false, [.portOut 0#3 0#8]) := by decide

theorem test_seq_without_a_change :
    (next? (step ((codeAt 0x0410#16 [0x7B#8]).setQ true))).map (fun t => (t.q, t.trace)) = some (true, []) := by decide

theorem test_ldx :
    accAfter (((withByte (codeAt 0x0410#16 [0xF0#8]) 0x0810#16 0x5A#8).setReg 2#4 0x0810#16).setD 0x00#8) = some (0x5A, false) := by decide

theorem test_or :
    accAfter (((withByte (codeAt 0x0410#16 [0xF1#8]) 0x0810#16 0xF0#8).setReg 2#4 0x0810#16).setD 0x0F#8) = some (0xFF, false) := by decide

theorem test_and :
    accAfter (((withByte (codeAt 0x0410#16 [0xF2#8]) 0x0810#16 0x0F#8).setReg 2#4 0x0810#16).setD 0x3C#8) = some (0x0C, false) := by decide

theorem test_xor :
    accAfter (((withByte (codeAt 0x0410#16 [0xF3#8]) 0x0810#16 0x0F#8).setReg 2#4 0x0810#16).setD 0xFF#8) = some (0xF0, false) := by decide

theorem test_add :
    accAfter (((withByte (codeAt 0x0410#16 [0xF4#8]) 0x0810#16 0xC8#8).setReg 2#4 0x0810#16).setD 0x3A#8) = some (0x02, true) := by decide

theorem test_adc :
    accAfter ({ ((withByte (codeAt 0x0410#16 [0x74#8]) 0x0810#16 0xC5#8).setReg 2#4 0x0810#16).setD 0x3A#8 with df := true }) = some (0x00, true) := by decide

theorem test_sd :
    accAfter (((withByte (codeAt 0x0410#16 [0xF5#8]) 0x0810#16 0x30#8).setReg 2#4 0x0810#16).setD 0x10#8) = some (0x20, true) := by decide

theorem test_sd_borrows :
    accAfter (((withByte (codeAt 0x0410#16 [0xF5#8]) 0x0810#16 0x10#8).setReg 2#4 0x0810#16).setD 0x30#8) = some (0xE0, false) := by decide

theorem test_sdb :
    accAfter (((withByte (codeAt 0x0410#16 [0x75#8]) 0x0810#16 0x30#8).setReg 2#4 0x0810#16).setD 0x10#8) = some (0x1F, true) := by decide

theorem test_sm :
    accAfter (((withByte (codeAt 0x0410#16 [0xF7#8]) 0x0810#16 0x10#8).setReg 2#4 0x0810#16).setD 0x30#8) = some (0x20, true) := by decide

theorem test_sm_borrows :
    accAfter (((withByte (codeAt 0x0410#16 [0xF7#8]) 0x0810#16 0x30#8).setReg 2#4 0x0810#16).setD 0x10#8) = some (0xE0, false) := by decide

theorem test_smb :
    accAfter (((withByte (codeAt 0x0410#16 [0x77#8]) 0x0810#16 0x10#8).setReg 2#4 0x0810#16).setD 0x30#8) = some (0x1F, true) := by decide

theorem test_shr :
    accAfter ((codeAt 0x0410#16 [0xF6#8]).setD 0x81#8) = some (0x40, true) := by decide

theorem test_shrc :
    accAfter ({ (codeAt 0x0410#16 [0x76#8]).setD 0x81#8 with df := true }) = some (0xC0, true) := by decide

theorem test_shl :
    accAfter ((codeAt 0x0410#16 [0xFE#8]).setD 0x81#8) = some (0x02, true) := by decide

theorem test_shlc :
    accAfter ({ (codeAt 0x0410#16 [0x7E#8]).setD 0x81#8 with df := true }) = some (0x03, true) := by decide

theorem test_ldi :
    accAfter ((codeAt 0x0410#16 [0xF8#8, 0x12#8]).setD 0x00#8) = some (0x12, false) := by decide

theorem test_ldi_moves_past_its_operand :
    pcAfter (codeAt 0x0410#16 [0xF8#8, 0x12#8]) = some 0x0412 := by decide

theorem test_ori :
    accAfter ((codeAt 0x0410#16 [0xF9#8, 0x0A#8]).setD 0x50#8) = some (0x5A, false) := by decide

theorem test_ani :
    accAfter ((codeAt 0x0410#16 [0xFA#8, 0x0F#8]).setD 0x5A#8) = some (0x0A, false) := by decide

theorem test_xri :
    accAfter ((codeAt 0x0410#16 [0xFB#8, 0xFF#8]).setD 0x5A#8) = some (0xA5, false) := by decide

theorem test_adi :
    accAfter ((codeAt 0x0410#16 [0xFC#8, 0x01#8]).setD 0xFF#8) = some (0x00, true) := by decide

theorem test_adci :
    accAfter ({ (codeAt 0x0410#16 [0x7C#8, 0x00#8]).setD 0x00#8 with df := true }) = some (0x01, false) := by decide

theorem test_sdi_borrows :
    accAfter ((codeAt 0x0410#16 [0xFD#8, 0x00#8]).setD 0x01#8) = some (0xFF, false) := by decide

theorem test_sdi :
    accAfter ((codeAt 0x0410#16 [0xFD#8, 0x0A#8]).setD 0x05#8) = some (0x05, true) := by decide

theorem test_sdbi :
    accAfter ((codeAt 0x0410#16 [0x7D#8, 0x0A#8]).setD 0x05#8) = some (0x04, true) := by decide

theorem test_smi_equal :
    accAfter ((codeAt 0x0410#16 [0xFF#8, 0x0A#8]).setD 0x0A#8) = some (0x00, true) := by decide

theorem test_smi_borrows :
    accAfter ((codeAt 0x0410#16 [0xFF#8, 0x0A#8]).setD 0x09#8) = some (0xFF, false) := by decide

theorem test_smbi :
    accAfter ((codeAt 0x0410#16 [0x7F#8, 0x00#8]).setD 0x10#8) = some (0x0F, true) := by decide

theorem test_smbi_borrows :
    accAfter ((codeAt 0x0410#16 [0x7F#8, 0x00#8]).setD 0x00#8) = some (0xFF, false) := by decide

theorem test_glo_of_the_program_counter :
    accAfter ((codeAt 0x1234#16 [0x83#8])) = some (0x35, false) := by decide

theorem test_glo5 :
    accAfter ((codeAt 0x0410#16 [0x85#8]).setReg 5#4 0x1234#16) = some (0x34, false) := by decide

theorem test_ghi5 :
    accAfter ((codeAt 0x0410#16 [0x95#8]).setReg 5#4 0x1234#16) = some (0x12, false) := by decide

theorem test_plo1 :
    regAfter (((codeAt 0x0410#16 [0xA1#8]).setReg 1#4 0xAB00#16).setD 0x12#8) 1#4 = some 0xAB12 := by decide

theorem test_phi1 :
    regAfter (((codeAt 0x0410#16 [0xB1#8]).setReg 1#4 0x0012#16).setD 0x08#8) 1#4 = some 0x0812 := by decide

theorem test_sep5 :
    (next? (step ((codeAt 0x0410#16 [0xD5#8]).setReg 5#4 0x0480#16))).map
      (fun t => (t.p.toNat, (t.reg 3#4).toNat, t.pc.toNat)) = some (5, 0x0411, 0x0480) := by decide

theorem test_sex9 :
    (next? (step (codeAt 0x0410#16 [0xE9#8]))).map (fun t => t.x.toNat) = some 9 := by decide

theorem test_lbr :
    pcAfter (codeAt 0x0410#16 [0xC0#8, 0x06#8, 0x80#8]) = some 0x0680 := by decide

theorem test_lbr_keeps_all_sixteen_bits :
    pcAfter (codeAt 0x0410#16 [0xC0#8, 0xF8#8, 0x50#8]) = some 0xF850 := by decide

theorem test_lbq_not_taken :
    pcAfter (codeAt 0x0410#16 [0xC1#8, 0x06#8, 0x80#8]) = some 0x0413 := by decide

theorem test_lbz_taken :
    pcAfter (codeAt 0x0410#16 [0xC2#8, 0x05#8, 0x00#8]) = some 0x0500 := by decide

theorem test_lbdf_not_taken :
    pcAfter (codeAt 0x0410#16 [0xC3#8, 0x05#8, 0x00#8]) = some 0x0413 := by decide

theorem test_nop :
    pcAfter (codeAt 0x0410#16 [0xC4#8]) = some 0x0411 := by decide

theorem test_lsnq_taken :
    pcAfter (codeAt 0x0410#16 [0xC5#8]) = some 0x0413 := by decide

theorem test_lsnz_not_taken :
    pcAfter (codeAt 0x0410#16 [0xC6#8]) = some 0x0411 := by decide

theorem test_lsnf_taken :
    pcAfter (codeAt 0x0410#16 [0xC7#8]) = some 0x0413 := by decide

theorem test_lskp :
    pcAfter (codeAt 0x0410#16 [0xC8#8]) = some 0x0413 := by decide

theorem test_lbnq_taken :
    pcAfter (codeAt 0x0410#16 [0xC9#8, 0x06#8, 0x80#8]) = some 0x0680 := by decide

theorem test_lbnz_not_taken :
    pcAfter (codeAt 0x0410#16 [0xCA#8, 0x04#8, 0x00#8]) = some 0x0413 := by decide

theorem test_lbnf_taken :
    pcAfter (codeAt 0x0410#16 [0xCB#8, 0x04#8, 0x00#8]) = some 0x0400 := by decide

theorem test_lsie_taken :
    pcAfter (codeAt 0x0410#16 [0xCC#8]) = some 0x0413 := by decide

theorem test_lsq_not_taken :
    pcAfter (codeAt 0x0410#16 [0xCD#8]) = some 0x0411 := by decide

theorem test_lsz_taken :
    pcAfter (codeAt 0x0410#16 [0xCE#8]) = some 0x0413 := by decide

theorem test_lsdf_not_taken :
    pcAfter (codeAt 0x0410#16 [0xCF#8]) = some 0x0411 := by decide

theorem test_fetch_straddles_the_end_of_memory :
    pcAfter (codeAt 0x0FFF#16 [0xC0#8, 0x06#8, 0x80#8]) = some 0x0680 := by decide

/-! ### Witnesses: the hypotheses of each statement can be met -/

/-- A result that is a next state. -/
theorem exists_next {r : Result} (h : (next? r).isSome = true) : ∃ t, r = .next t := by
  cases r with
  | next t => exact ⟨t, rfl⟩
  | fault f => cases f
  | refused r => cases h

/-- A memory with bytes at both ends of RAM. -/
def ramEnds : Memory := [(0x800, 0x23#8), (0x9FF, 0x45#8)]

/-- The machine after reset, with `ramEnds`. -/
def ramState : State := { State.reset with mem := ramEnds }

/-- StrStoresD, StxdStoresAndDecrements, InpStoresZeroAndLoadsD, SavStoresT, MarkPushesXAndP: canonical memories. -/
theorem witness_canonical_memories : Memory.wf [] ∧ ramEnds.wf := by decide

/-- The same statements, the two cases of `StoredAt` at the ends of RAM. -/
theorem witness_stores_at_the_ends_of_ram :
    isRam 0x7FF = false ∧ isRam 0x800 = true ∧ isRam 0x9FF = true ∧ isRam 0xA00 = false := by decide

/-- Rows of the register and port families at both ends. -/
theorem witness_rows :
    (Instr.ldn1, 1#4) ∈ Instr.ldnRows ∧ (Instr.ldnF, 15#4) ∈ Instr.ldnRows ∧ (Instr.inc0, 0#4) ∈ Instr.incRows ∧
    (Instr.decF, 15#4) ∈ Instr.decRows ∧ (Instr.lda0, 0#4) ∈ Instr.ldaRows ∧ (Instr.strF, 15#4) ∈ Instr.strRows ∧
    (Instr.out1, 1#3) ∈ Instr.outRows ∧ (Instr.inp7, 7#3) ∈ Instr.inpRows ∧ (Instr.glo0, 0#4) ∈ Instr.gloRows ∧
    (Instr.ghiF, 15#4) ∈ Instr.ghiRows ∧ (Instr.plo0, 0#4) ∈ Instr.ploRows ∧ (Instr.phiF, 15#4) ∈ Instr.phiRows ∧
    (Instr.sep0, 0#4) ∈ Instr.sepRows ∧ (Instr.sexF, 15#4) ∈ Instr.sexRows := by
  refine ⟨?_, ?_, ?_, ?_, ?_, ?_, ?_, ?_, ?_, ?_, ?_, ?_, ?_, ?_⟩ <;> decide

/-- IdlTakesBackTheFetch, second clause: the least `Cycles` that does not end the phase. -/
theorem witness_IdlTakesBackTheFetch :
    (State.reset.setCycles 2).memRead (State.reset.setCycles 2).pc = 0#8 ∧ 2 ≤ (State.reset.setCycles 2).cycles := by
  decide

/-- NoEffectInstructionsOnlyAdvance. -/
theorem witness_NoEffectInstructionsOnlyAdvance :
    ((codeAt 0x0410#16 [0x68#8]).setCycles 2).memRead 0x0410#16 = 0x68#8 ∧
    ((codeAt 0x0410#16 [0xC4#8]).setCycles 2).memRead 0x0410#16 = 0xC4#8 ∧
    2 ≤ ((codeAt 0x0410#16 [0xC4#8]).setCycles 2).cycles := by decide

/-- BranchesOnTheKeypads: no answer left, and answers of either kind. -/
theorem witness_BranchesOnTheKeypads :
    State.reset.keypadAnswers = [] ∧
    { State.reset with keypadAnswers := [true, false] }.keypadAnswers = true :: [false] ∧
    { State.reset with keypadAnswers := [false] }.keypadAnswers = false :: [] := by decide

/-- RotatesAreInverseAndOfOrderNine, first two clauses. -/
theorem witness_rotates_inverse :
    ∃ t u, exec .shrc (State.reset.setD 0x81#8) = .next t ∧ exec .shlc t = .next u ∧ t ≠ u :=
  ⟨_, _, rfl, rfl, by decide⟩

/-- RotatesAreInverseAndOfOrderNine, third clause: a run of nine rotates. -/
theorem witness_rotates_of_order_nine :
    ∃ f : Nat → State, f 0 ≠ f 1 ∧ ∀ k, k < 9 → exec .shrc (f k) = .next (f (k + 1)) := by
  refine ⟨fun k => (fun s : State => s.setArith (shrC s.d s.df true))^[k] (State.reset.setD 0x81#8), by decide, ?_⟩
  intro k _
  simp only [Function.iterate_succ_apply']
  rfl

/-- EncodeOfDecode. -/
theorem witness_EncodeOfDecode : decode [0xC0#8, 0x06#8, 0x80#8, 0xFF#8] = .ok (.lbr 0x0680#16, [0xFF#8]) := rfl

/-- EveryByteDecodes: opcodes of each length with their last operand byte, and without it. -/
theorem witness_EveryByteDecodes :
    opcodeLength 0x00#8 ≤ ([] : List Byte).length + 1 ∧ opcodeLength 0xFF#8 ≤ [0x12#8].length + 1 ∧
    opcodeLength 0xCB#8 ≤ [0x12#8, 0x34#8].length + 1 ∧ ([] : List Byte).length + 1 < opcodeLength 0x3F#8 ∧
    [0x12#8].length + 1 < opcodeLength 0xC0#8 ∧ opcodeLength 0xC4#8 = 1 ∧ opcodeLength 0x7E#8 = 1 := by decide

/-- EveryByteDecodes: the refused inputs of each length. -/
theorem witness_EveryByteDecodes_refused :
    decode [] = .error .noOpcode ∧ decode [0xF8#8] = .error (.missingOperand 0xF8#8) ∧
      decode [0xCB#8, 0x00#8] = .error (.missingOperand 0xCB#8) := ⟨rfl, rfl, rfl⟩

/-- WrittenWordsDecode: each of the three lists has an entry. -/
theorem witness_WrittenWordsDecode :
    (0xFE#8, Instr.shl) ∈ plainCodes ∧ (0x30#8, Instr.br) ∈ byteCodes ∧ (0xC0#8, Instr.lbr) ∈ wordCodes :=
  ⟨List.mem_append_right _ (by decide), .head _, .head _⟩

/-- WellFormedLinesAssemble: operands at both ends, and just outside. -/
theorem witness_WellFormedLinesAssemble :
    (Asm.reg .ldn 1).instr? = some .ldn1 ∧ (Asm.reg .sep 15).instr? = some .sepF ∧ (Asm.port .out 1).instr? = some .out1 ∧
    (Asm.port .inp 7).instr? = some .inp7 ∧ (Asm.reg .sep 16).instr? = none ∧ (Asm.port .out 8).instr? = none := by
  decide

/-- StepRunsTheDecodedInstruction: a long branch with a phase's last cycles, and one with cycles to spare. -/
theorem witness_StepRunsTheDecodedInstruction :
    decode [(codeAt 0x0410#16 [0xC0#8, 0x06#8, 0x80#8]).memRead 0x0410#16,
        (codeAt 0x0410#16 [0xC0#8, 0x06#8, 0x80#8]).memRead 0x0411#16,
        (codeAt 0x0410#16 [0xC0#8, 0x06#8, 0x80#8]).memRead 0x0412#16] = .ok (.lbr 0x0680#16, []) ∧
    ∀ s : State, ∃ t, exec (.lbr 0x0680#16) ((s.setPc (s.pc + 1#16)).setCycles (s.cycles - 2)) = .next t :=
  ⟨rfl, fun _ => ⟨_, rfl⟩⟩

/-- EveryStepTakesTwoCycles: `Cycles` on both sides of the boundary, in both phases. -/
theorem witness_EveryStepTakesTwoCycles :
    ∀ c ∈ ([2, 1, 0] : List Int), ∀ ph ∈ [Phase.activeDisplay, Phase.interruptPreliminary],
      ∃ t, step { State.reset with cycles := c, phase := ph } = .next t :=
  fun c hc ph hp => exists_next ((by decide : ∀ c ∈ ([2, 1, 0] : List Int),
    ∀ ph ∈ [Phase.activeDisplay, Phase.interruptPreliminary],
      (next? (step { State.reset with cycles := c, phase := ph })).isSome = true) c hc ph hp)

/-- APhaseLastsHalfItsCyclesPlusOne: the shortest phase, and one that is not. -/
theorem witness_APhaseLastsHalfItsCyclesPlusOne :
    (State.reset.setCycles 0).cycles = ((0 : Nat) : Int) ∧ phaseSteps 0 = 1 ∧
    (State.reset.setCycles 3).cycles = ((3 : Nat) : Int) ∧ 1 < phaseSteps 3 := by decide

/-- FramesRepeatWithAFixedPeriod: budgets 2 and 1, so `N_A = 2`, `N_P = 1`; the three clauses are `k` = 1, 2, 3. -/
theorem witness_FramesRepeatWithAFixedPeriod :
    let s := State.start ⟨2, 1, false⟩ []
    s.phase = .activeDisplay ∧ s.cycles = (s.config.budgetActive : Int) ∧ phaseSteps s.config.budgetActive = 2 ∧
    phaseSteps s.config.budgetPrelim = 1 ∧
    [1, 2, 3, 4, 5, 6].map (fun k => (next? (runSteps k s)).map (fun t => t.signal)) =
      [some .none, some .activeDisplayEnded, some .interruptPreliminaryEnded,
       some .none, some .activeDisplayEnded, some .interruptPreliminaryEnded] := by decide

/-- LeavingActiveDisplay: display off, and display on with either `IE` and either kind of byte at `R[P]`. -/
theorem witness_LeavingActiveDisplay :
    (State.reset.setCycles (-1)).phase = .activeDisplay ∧ (State.reset.setCycles (-1)).cycles < 0 ∧
    (State.reset.setCycles (-1)).displayEnabled = false ∧
    ((State.reset.setCycles (-1)).setDisplay true).ie = true ∧
    (((State.reset.setCycles (-1)).setDisplay true).setIE false).ie = false ∧
    ((State.reset.setCycles (-1)).setDisplay true).memRead 0#16 = 0x00#8 ∧
    (codeAt 0x0410#16 [0xC4#8]).memRead 0x0410#16 ≠ 0x00#8 := by decide

/-- LeavingInterruptPreliminary. -/
theorem witness_LeavingInterruptPreliminary :
    { State.reset with phase := .interruptPreliminary, cycles := -1 }.phase = .interruptPreliminary ∧
    { State.reset with phase := .interruptPreliminary, cycles := -1 }.cycles < 0 := by decide

/-- TheScreenWindowIsLatchedOncePerFrame: a step that ends an `InterruptPreliminary` phase with the display enabled, and
a step that does not. -/
theorem witness_TheScreenWindowIsLatchedOncePerFrame :
    ((next? (step { ((State.reset.setDisplay true).setReg 0#4 0x0820#16) with
        phase := .interruptPreliminary, cycles := 1 })).map
      (fun t => (t.signal, t.getScreenBase, t.getScrollOffset))) =
        some (.interruptPreliminaryEnded, some 0x800#12, 0x20#8) ∧
    ((next? (step State.reset)).map (fun t => (t.signal, t.getScreenBase))) = some (.none, none) := by decide

/-- InterruptEntry: both values of `IE`. -/
theorem witness_InterruptEntry : State.reset.ie = true ∧ (State.reset.setIE false).ie = false := by decide

/-- InterruptsComeOnlyAtTheEndOfActiveDisplay: a step that takes the interrupt, and a DIS. -/
theorem witness_InterruptsComeOnlyAtTheEndOfActiveDisplay :
    ((next? (step ((State.reset.setDisplay true).setCycles 1))).map (fun t => (t.ie, t.p, t.x, t.pc))) =
      some (false, 1#4, 2#4, 0#16) ∧
    ((next? (step (codeAt 0x0410#16 [0x71#8]))).map (fun t => t.ie)) = some false := by decide

/-- AHandlerReturnsToTheInterruptedProgram: the stack cell at both ends of RAM. -/
theorem witness_AHandlerReturnsToTheInterruptedProgram :
    ∀ w ∈ [0x801#16, 0xA00#16], (ramState.setReg 2#4 w).mem.wf ∧ (ramState.setReg 2#4 w).ie = true ∧
      isRam (a12 ((ramState.setReg 2#4 w).reg 2#4 - 1#16).toNat) = true := by
  intro w hw
  refine ⟨witness_canonical_memories.2, rfl, ?_⟩
  simp only [List.mem_cons, List.not_mem_nil, or_false] at hw
  rcases hw with rfl | rfl <;> rfl

/-- MarkThenReturnRestoresXAndP: the marked cell at both ends of RAM. -/
theorem witness_MarkThenReturnRestoresXAndP :
    ∀ w ∈ [0x800#16, 0x9FF#16], (ramState.setReg 2#4 w).mem.wf ∧
      isRam (a12 ((ramState.setReg 2#4 w).reg 2#4).toNat) = true := by
  intro w hw
  refine ⟨witness_canonical_memories.2, ?_⟩
  simp only [List.mem_cons, List.not_mem_nil, or_false] at hw
  rcases hw with rfl | rfl <;> rfl

/-- EveryStepKeepsTheInvariant, HostActionsKeepTheInvariant: a state in the invariant whose memory lists bytes. -/
theorem witness_Inv : ramState.Inv := ⟨by decide, by decide, by decide⟩

/-- EveryStepKeepsTheInvariant: it has a next state, with a store in RAM. -/
theorem witness_EveryStepKeepsTheInvariant :
    (codeAt 0x0850#16 [0x53#8]).Inv ∧ ∃ t, step (codeAt 0x0850#16 [0x53#8]) = .next t :=
  ⟨⟨by decide, by decide, by decide⟩, exists_next (by decide)⟩

/-- HostActionsKeepTheInvariant: each action answers a next state. -/
theorem witness_HostActionsKeepTheInvariant :
    ∀ a ∈ [HostAction.reset, .writeMemory 0x850 0xAB#8, .loadImage [0x01#8, 0x02#8] 0x7FF, .answerKeypad true],
      a ≠ .execute ∧ ∃ t, ramState.act a = .next t := by
  simp [State.act]

/-- ResetMeetsTheInvariant: `MEM_INIT` with bytes at both ends of RAM. -/
theorem witness_ResetMeetsTheInvariant : (State.start ⟨0, 29, true⟩ ramEnds).Inv := ⟨by decide, by decide, by decide⟩

/-- TheImageIsReadOnly: the cells next to RAM, and a step that stores. -/
theorem witness_TheImageIsReadOnly :
    (∀ a ∈ [0x7FF#16, 0xA00#16, 0x17FF#16, 0xFA00#16], ¬(0x800 ≤ a.toNat % 4096 ∧ a.toNat % 4096 ≤ 0x9FF)) ∧
    ∃ t, step (codeAt 0x07FF#16 [0x53#8]) = .next t := ⟨by simp, exists_next (by decide)⟩

/-- OnlyStoresWriteMemory: opcodes next to the stores. -/
theorem witness_OnlyStoresWriteMemory :
    ∀ i ∈ [Instr.ldaF, .irx, .x68, .ret, .ldxa, .smb, .req],
      (∀ op ∈ [0x50#8, 0x5F#8, 0x69#8, 0x6F#8, 0x73#8, 0x78#8, 0x79#8], (encode i).head? ≠ some op) ∧
      (next? (exec i State.reset)).isSome = true := by decide

/-- EachControlElementHasItsWriters, NoInstructionSeesTheFrame: an instruction that is a writer of nothing. -/
theorem witness_EachControlElementHasItsWriters :
    (∃ t, exec .idl State.reset = .next t) ∧ (∀ q ∈ Instr.sexRows, Instr.idl ≠ q.1) ∧
      ∀ q ∈ Instr.sepRows, Instr.idl ≠ q.1 := ⟨⟨_, rfl⟩, by decide, by decide⟩

/-- HostWritesAreGuarded: canonical memory, the cells at both ends of RAM and next to it, and another cell. -/
theorem witness_HostWritesAreGuarded :
    ramState.mem.wf ∧ ([0x7FF, 0x800, 0x9FF, 0xA00].map (fun a => (ramState.writeMemory a 0xAB#8).readMemory a)) =
      [0x00#8, 0xAB#8, 0xAB#8, 0x00#8] ∧ (0x801 : Nat) % 4096 ≠ 0x800 % 4096 := by decide

/-- LoadImageFillsTheImage: an image that runs over the start of the protected range. -/
theorem witness_LoadImageFillsTheImage :
    ramState.mem.wf ∧ [0x11#8, 0x22#8].length ≤ 4096 ∧
    (ramState.loadImage [0x11#8, 0x22#8] 0x7FF).readMemory 0x7FF = 0x11#8 ∧
    (ramState.loadImage [0x11#8, 0x22#8] 0x7FF).readMemory 0x800 = 0x23#8 ∧
    ∀ k, k < 2 → (0x7FF + k) % 4096 ≠ 0x9FF % 4096 := by decide


end Sys2Proof.Tests
end

/-! PROOFS. The state and its invariants (spec/10_state.md): what an instruction can do, said once as a kind of effect;
from it, what instructions and whole steps leave unchanged. -/

namespace Sys2Proof.Machine

/-! ### What an instruction can do -/

/-- A value an instruction computes from the state without looking at the frame FSM's own elements (R19, R20, R21),
with the proof that it does not. -/
structure FrameBlind (α : Type) where
  read : State → α
  read_retimed : ∀ (s : State) (c : Int) (ph : Phase) (base : Addr12) (scroll : Byte) (sig : PhaseSignal),
    read (s.retimed c ph base scroll sig) = read s := by intros; rfl

/-- The opcodes R30 names as writers of `DF`: the adds, subtracts and shifts (D15 to D17). -/
def dfOpcodes : List Byte :=
  [0x74#8, 0x75#8, 0x76#8, 0x77#8, 0x7C#8, 0x7D#8, 0x7E#8, 0x7F#8, 0xF4#8, 0xF5#8, 0xF6#8, 0xF7#8, 0xFC#8, 0xFD#8,
   0xFE#8, 0xFF#8]

/-- The kinds of effect an instruction can have, by which elements of the state it writes. `Effect i f`: the function
`f` is of the kind the constructor names, and instruction `i` may have that kind. A kind that writes a control element
of R30 admits only the instructions the table names as its writers. What is written is a frame-blind value. -/
inductive Effect : Instr → (State → State) → Prop where
  /-- 0x68 (R156). -/
  | nothing {i : Instr} : Effect i (fun s => s)
  /-- One register: IDL, INC, DEC, IRX, PLO, PHI; `R[P]` for skips and for branches on `Q`, `D`, `DF` or `IE`. -/
  | writeReg {i : Instr} (n : FrameBlind RegNo) (v : FrameBlind Word) :
      Effect i (fun s => s.setReg (n.read s) (v.read s))
  /-- A branch on an external flag, which may query a keypad (R125 to R128, R133 to R136). -/
  | queryFlag {i : Instr} (id : Nat) (v : FrameBlind Word) :
      Effect i (fun s => (s.operandFetched.extFlag id).2.setPc (v.read s))
  /-- `D` alone: LDN, GLO, GHI, LDX and the logic operations. -/
  | writeD {i : Instr} (v : FrameBlind Byte) : Effect i (fun s => s.setD (v.read s))
  /-- `D` from an immediate operand: LDI, ORI, ANI, XRI. -/
  | writeDImm {i : Instr} (v : FrameBlind Byte) : Effect i (fun s => s.operandFetched.setD (v.read s))
  /-- `D` and one register: LDA, LDXA. -/
  | writeDAndReg {i : Instr} (v : FrameBlind Byte) (n : FrameBlind RegNo) (w : FrameBlind Word) :
      Effect i (fun s => (s.setD (v.read s)).setReg (n.read s) (w.read s))
  /-- `D` and `DF`: adds, subtracts and shifts. -/
  | arith {i : Instr} (hi : OpcodeIn dfOpcodes i) (v : FrameBlind (Byte × Bool)) :
      Effect i (fun s => s.setArith (v.read s))
  /-- `D` and `DF` with an immediate operand. -/
  | arithImm {i : Instr} (hi : OpcodeIn dfOpcodes i) (v : FrameBlind (Byte × Bool)) :
      Effect i (fun s => s.operandFetched.setArith (v.read s))
  /-- One `MemWrite`: STR, SAV. -/
  | store {i : Instr} (a : FrameBlind Word) (v : FrameBlind Byte) :
      Effect i (fun s => s.memWrite (a.read s) (v.read s))
  /-- One `MemWrite` and the data pointer: STXD. -/
  | storeAndStepX {i : Instr} (a : FrameBlind Word) (v : FrameBlind Byte) (w : FrameBlind Word) :
      Effect i (fun s => (s.memWrite (a.read s) (v.read s)).setDataPtr (w.read s))
  /-- MARK (R193). -/
  | mark : Effect .mark (fun s =>
      (((s.setT (packXP s.x s.p)).memWrite (s.reg 2#4) (packXP s.x s.p)).setX s.p).setReg 2#4 (s.reg 2#4 - 1#16))
  /-- OUT p (R155). -/
  | output {i : Instr} {p : Port} (hi : (i, p) ∈ Instr.outRows) (v : FrameBlind Byte) (w : FrameBlind Word) :
      Effect i (fun s => (s.portOut p (v.read s)).setDataPtr (w.read s))
  /-- INP p (R157). -/
  | input {i : Instr} {p : Port} (hi : (i, p) ∈ Instr.inpRows) (a : FrameBlind Word) (v : FrameBlind Byte) :
      Effect i (fun s => ((s.portIn p).2.memWrite (a.read s) (v.read s)).setD (v.read s))
  /-- SEX n (R265). -/
  | writeX {i : Instr} {n : RegNo} (hi : (i, n) ∈ Instr.sexRows) : Effect i (fun s => s.setX n)
  /-- SEP n (R264). -/
  | writeP {i : Instr} {n : RegNo} (hi : (i, n) ∈ Instr.sepRows) : Effect i (fun s => s.setP n)
  /-- RET and DIS (R190, R191). -/
  | returnFrom {i : Instr} (hi : i = .ret ∨ i = .dis) (b : Bool) : Effect i (fun s => s.returnFrom b)
  /-- REQ and SEQ (R194, R195). -/
  | latchQ {i : Instr} (hi : i = .req ∨ i = .seq) (b : Bool) : Effect i (fun s => s.latchQ b)

/-- All an instruction can do: it answers a next state, and its body is a function of one of the kinds of `Effect`. -/
theorem exec_effect (i : Instr) : ∃ f, (∀ s, exec i s = .next (f s)) ∧ Effect i f := by
  cases i with
  | x68 => exact ⟨_, fun _ => rfl, .nothing⟩
  | idl | irx
  | inc0 | inc1 | inc2 | inc3 | inc4 | inc5 | inc6 | inc7 | inc8 | inc9 | incA | incB | incC | incD | incE | incF
  | dec0 | dec1 | dec2 | dec3 | dec4 | dec5 | dec6 | dec7 | dec8 | dec9 | decA | decB | decC | decD | decE | decF
  | plo0 | plo1 | plo2 | plo3 | plo4 | plo5 | plo6 | plo7 | plo8 | plo9 | ploA | ploB | ploC | ploD | ploE | ploF
  | phi0 | phi1 | phi2 | phi3 | phi4 | phi5 | phi6 | phi7 | phi8 | phi9 | phiA | phiB | phiC | phiD | phiE | phiF =>
    exact ⟨_, fun _ => rfl, .writeReg (.mk _) (.mk _)⟩
  | br | bq | bz | bdf | skp | bnq | bnz | bnf =>
    exact ⟨_, fun s => congrArg Host.Outcome.next (shortBranch_eq _ _ s), .writeReg (.mk _) (.mk _)⟩
  | lbr | lbq | lbz | lbdf | lbnq | lbnz | lbnf =>
    exact ⟨_, fun s => congrArg Host.Outcome.next (longBranch_eq _ _ s), .writeReg (.mk _) (.mk _)⟩
  | nop | lsnq | lsnz | lsnf | lskp | lsie | lsq | lsz | lsdf =>
    exact ⟨_, fun s => congrArg Host.Outcome.next (longSkip_eq _ s), .writeReg (.mk _) (.mk _)⟩
  | b1 | b2 | b3 | b4 | bn1 | bn2 | bn3 | bn4 =>
    exact ⟨_, fun s => congrArg Host.Outcome.next (flagBranch_eq _ _ _ s), .queryFlag _ (.mk _)⟩
  | ldn1 | ldn2 | ldn3 | ldn4 | ldn5 | ldn6 | ldn7 | ldn8 | ldn9 | ldnA | ldnB | ldnC | ldnD | ldnE | ldnF
  | glo0 | glo1 | glo2 | glo3 | glo4 | glo5 | glo6 | glo7 | glo8 | glo9 | gloA | gloB | gloC | gloD | gloE | gloF
  | ghi0 | ghi1 | ghi2 | ghi3 | ghi4 | ghi5 | ghi6 | ghi7 | ghi8 | ghi9 | ghiA | ghiB | ghiC | ghiD | ghiE | ghiF
  | ldx | or | and | xor => exact ⟨_, fun _ => rfl, .writeD (.mk _)⟩
  | lda0 | lda1 | lda2 | lda3 | lda4 | lda5 | lda6 | lda7 | lda8 | lda9 | ldaA | ldaB | ldaC | ldaD | ldaE | ldaF
  | ldxa => exact ⟨_, fun _ => rfl, .writeDAndReg (.mk _) (.mk _) (.mk _)⟩
  | ldi | ori | ani | xri => exact ⟨_, fun _ => rfl, .writeDImm (.mk _)⟩
  | adc | sdb | shrc | smb | shlc | add | sd | shr | sm | shl =>
    exact ⟨_, fun _ => rfl, .arith ⟨_, by decide, rfl⟩ (.mk _)⟩
  | adci | sdbi | smbi | adi | sdi | smi => exact ⟨_, fun _ => rfl, .arithImm ⟨_, by decide, rfl⟩ (.mk _)⟩
  | str0 | str1 | str2 | str3 | str4 | str5 | str6 | str7 | str8 | str9 | strA | strB | strC | strD | strE | strF
  | sav => exact ⟨_, fun _ => rfl, .store (.mk _) (.mk _)⟩
  | stxd => exact ⟨_, fun _ => rfl, .storeAndStepX (.mk _) (.mk _) (.mk _)⟩
  | mark => exact ⟨_, fun _ => rfl, .mark⟩
  | out1 | out2 | out3 | out4 | out5 | out6 | out7 => exact ⟨_, fun _ => rfl, .output (by decide) (.mk _) (.mk _)⟩
  | inp1 | inp2 | inp3 | inp4 | inp5 | inp6 | inp7 => exact ⟨_, fun _ => rfl, .input (by decide) (.mk _) (.mk _)⟩
  | sex0 | sex1 | sex2 | sex3 | sex4 | sex5 | sex6 | sex7 | sex8 | sex9 | sexA | sexB | sexC | sexD | sexE | sexF =>
    exact ⟨_, fun _ => rfl, .writeX (by decide)⟩
  | sep0 | sep1 | sep2 | sep3 | sep4 | sep5 | sep6 | sep7 | sep8 | sep9 | sepA | sepB | sepC | sepD | sepE | sepF =>
    exact ⟨_, fun _ => rfl, .writeP (by decide)⟩
  | ret | dis => exact ⟨_, fun _ => rfl, .returnFrom (by simp) _⟩
  | req | seq => exact ⟨_, fun _ => rfl, .latchQ (by simp) _⟩

/-- An instruction that answers a next state answers the value of one of the functions of `Effect`. -/
theorem exec_next {i : Instr} {s t : State} (h : exec i s = .next t) :
    ∃ f, (∀ u, exec i u = .next (f u)) ∧ Effect i f ∧ t = f s := by
  obtain ⟨f, hf, he⟩ := exec_effect i
  rw [hf, Host.Outcome.next.injEq] at h
  exact ⟨f, hf, he, h.symm⟩

/-! ### What each kind of effect leaves unchanged (R30, the column "written by") -/

theorem outRows_port_one {i : Instr} (h : (i, 1#3) ∈ Instr.outRows) : i = .out1 := by
  simpa [Instr.outRows] using h

theorem outRows_port_two {i : Instr} (h : (i, 2#3) ∈ Instr.outRows) : i = .out2 := by
  simpa [Instr.outRows] using h

theorem inpRows_port_one {i : Instr} (h : (i, 1#3) ∈ Instr.inpRows) : i = .inp1 := by
  simpa [Instr.inpRows] using h

namespace Effect

variable {i : Instr} {f : State → State}

theorem config_eq (he : Effect i f) (s : State) : (f s).config = s.config := by
  cases he <;> simp

theorem df_eq (he : Effect i f) (hi : ¬OpcodeIn dfOpcodes i) (s : State) : (f s).df = s.df := by
  cases he with
  | arith h | arithImm h => exact absurd h hi
  | _ => simp

theorem q_eq (he : Effect i f) (hreq : i ≠ .req) (hseq : i ≠ .seq) (s : State) : (f s).q = s.q := by
  cases he with
  | latchQ h => exact absurd h (not_or.mpr ⟨hreq, hseq⟩)
  | _ => simp

theorem ie_eq (he : Effect i f) (hret : i ≠ .ret) (hdis : i ≠ .dis) (s : State) : (f s).ie = s.ie := by
  cases he with
  | returnFrom h => exact absurd h (not_or.mpr ⟨hret, hdis⟩)
  | _ => simp

theorem t_eq (he : Effect i f) (hmark : i ≠ .mark) (s : State) : (f s).t = s.t := by
  cases he with
  | mark => exact absurd rfl hmark
  | _ => simp

theorem x_eq (he : Effect i f) (hsex : ∀ q ∈ Instr.sexRows, i ≠ q.1) (hmark : i ≠ .mark) (hret : i ≠ .ret)
    (hdis : i ≠ .dis) (s : State) : (f s).x = s.x := by
  cases he with
  | writeX h => exact absurd rfl (hsex _ h)
  | mark => exact absurd rfl hmark
  | returnFrom h => exact absurd h (not_or.mpr ⟨hret, hdis⟩)
  | _ => simp

theorem p_eq (he : Effect i f) (hsep : ∀ q ∈ Instr.sepRows, i ≠ q.1) (hret : i ≠ .ret) (hdis : i ≠ .dis)
    (s : State) : (f s).p = s.p := by
  cases he with
  | writeP h => exact absurd rfl (hsep _ h)
  | returnFrom h => exact absurd h (not_or.mpr ⟨hret, hdis⟩)
  | _ => simp

theorem displayEnabled_eq (he : Effect i f) (hout : i ≠ .out1) (hinp : i ≠ .inp1) (s : State) :
    (f s).displayEnabled = s.displayEnabled := by
  cases he with
  | @output _ p h v w =>
    have hp : p ≠ 1#3 := fun e => hout (outRows_port_one (e ▸ h))
    simp [State.portOut_displayEnabled, hp]
  | @input _ p h a v =>
    have hp : p ≠ 1#3 := fun e => hinp (inpRows_port_one (e ▸ h))
    simp [State.portIn_displayEnabled, hp]
  | _ => simp

theorem keySel_eq (he : Effect i f) (hout : i ≠ .out2) (s : State) : (f s).keySel = s.keySel := by
  cases he with
  | @output _ p h v w =>
    have hp : p ≠ 2#3 := fun e => hout (outRows_port_two (e ▸ h))
    simp [State.portOut_keySel, hp]
  | _ => simp

/-- All an instruction can do to memory: nothing, or one `MemWrite` (R43). -/
theorem mem_cases (he : Effect i f) (s : State) :
    (f s).mem = s.mem ∨ ∃ (a : Word) (v : Byte), (f s).mem = (s.memWrite a v).mem := by
  cases he with
  | store a v => exact .inr ⟨_, _, rfl⟩
  | storeAndStepX a v w => exact .inr ⟨_, _, rfl⟩
  | mark => exact .inr ⟨s.reg 2#4, packXP s.x s.p, by simp [State.memWrite_mem]⟩
  | input h a v => exact .inr ⟨a.read s, v.read s, by simp [State.memWrite_mem]⟩
  | _ => exact .inl (by simp)

end Effect

/-! ### The frame FSM's own elements -/

/-- `f` does the same whatever the frame FSM's own elements hold, and leaves them to hold it. -/
def CommutesWithRetiming (f : State → State) : Prop :=
  ∀ (s : State) (c : Int) (ph : Phase) (base : Addr12) (scroll : Byte) (sig : PhaseSignal),
    f (s.retimed c ph base scroll sig) = (f s).retimed c ph base scroll sig

namespace State

section
variable (s : State) (c : Int) (ph : Phase) (base : Addr12) (scroll : Byte) (sig : PhaseSignal)

/-- Putting back the values already there changes nothing. -/
theorem retimed_self : s.retimed s.cycles s.phase s.screenBase s.scrollOffset s.signal = s := rfl

theorem memWrite_retimed (a : Word) (v : Byte) :
    (s.retimed c ph base scroll sig).memWrite a v = (s.memWrite a v).retimed c ph base scroll sig := by
  simp only [memWrite]; split <;> rfl

theorem portOut_retimed (p : Port) (v : Byte) :
    (s.retimed c ph base scroll sig).portOut p v = (s.portOut p v).retimed c ph base scroll sig := by
  simp only [portOut]; split_ifs <;> rfl

theorem portIn_retimed (p : Port) :
    ((s.retimed c ph base scroll sig).portIn p).2 = (s.portIn p).2.retimed c ph base scroll sig := by
  simp only [portIn]; split <;> rfl

theorem extFlag_retimed (id : Nat) :
    ((s.retimed c ph base scroll sig).extFlag id).2 = (s.extFlag id).2.retimed c ph base scroll sig := by
  simp only [extFlag]; split <;> rfl

theorem latchQ_retimed (v : Bool) :
    (s.retimed c ph base scroll sig).latchQ v = (s.latchQ v).retimed c ph base scroll sig := by
  by_cases h : s.q = v
  · have hr : (s.retimed c ph base scroll sig).q = v := h
    simp only [latchQ, if_pos h, if_pos hr]
    rfl
  · have hr : (s.retimed c ph base scroll sig).q ≠ v := h
    simp only [latchQ, if_neg h, if_neg hr]
    exact portOut_retimed (s.setQ v) c ph base scroll sig _ _

end

end State

/-- What commutes with retiming leaves the FSM's elements alone: retime a state with its own values. -/
theorem CommutesWithRetiming.eq_retimed {f : State → State} (hf : CommutesWithRetiming f) (s : State) :
    f s = (f s).retimed s.cycles s.phase s.screenBase s.scrollOffset s.signal := by
  rw [← hf, State.retimed_self]

/-- No effect depends on the frame FSM's own elements. -/
theorem Effect.commutesWithRetiming {i : Instr} {f : State → State} (he : Effect i f) : CommutesWithRetiming f := by
  intro s c ph base scroll sig
  cases he with
  | writeReg n v => simp only [FrameBlind.read_retimed]; rfl
  | queryFlag id v =>
    simp only [FrameBlind.read_retimed]
    exact congrArg (State.setPc · (v.read s)) (State.extFlag_retimed s.operandFetched c ph base scroll sig id)
  | writeD v | writeDImm v => simp only [FrameBlind.read_retimed]; rfl
  | writeDAndReg v n w => simp only [FrameBlind.read_retimed]; rfl
  | arith h v | arithImm h v => simp only [FrameBlind.read_retimed]; rfl
  | store a v => simp only [FrameBlind.read_retimed, State.memWrite_retimed]
  | storeAndStepX a v w => simp only [FrameBlind.read_retimed, State.memWrite_retimed]; rfl
  | mark =>
    exact congrArg (fun u => (u.setX s.p).setReg 2#4 (s.reg 2#4 - 1#16)) (State.memWrite_retimed (s.setT _) ..)
  | output h v w => simp only [FrameBlind.read_retimed, State.portOut_retimed]; rfl
  | input h a v => simp only [FrameBlind.read_retimed, State.portIn_retimed, State.memWrite_retimed]; rfl
  | latchQ h b => exact State.latchQ_retimed ..
  | nothing | writeX | writeP | returnFrom => rfl

/-- Every element of the frame FSM is as it was, the last phase signal and the parameters with them. -/
theorem Effect.sameFrame {i : Instr} {f : State → State} (he : Effect i f) (s : State) : SameFrame s (f s) := by
  have h := he.commutesWithRetiming.eq_retimed s
  refine ⟨?_, ?_, ?_, ?_, ?_, he.config_eq s⟩ <;> rw [h] <;> rfl

/-! ### The obligations about single instructions -/

/-- Settles O56: the effect of an instruction commutes with retiming, and so leaves the FSM's elements alone. -/
theorem noInstructionSeesTheFrame : Obligations.NoInstructionSeesTheFrame := by
  intro i s t c ph base scroll sig h
  obtain ⟨f, hf, he, rfl⟩ := exec_next h
  exact ⟨he.sameFrame s, by rw [hf, he.commutesWithRetiming]⟩

/-- Settles O55: each kind of effect that writes a control element admits its writers only. -/
theorem eachControlElementHasItsWriters : Obligations.EachControlElementHasItsWriters := by
  intro i s t h
  obtain ⟨f, -, he, rfl⟩ := exec_next h
  exact ⟨(he.df_eq · s), (he.q_eq · · s), (he.ie_eq · · s), (he.t_eq · s), (he.x_eq · · · · s), (he.p_eq · · · s),
    (he.displayEnabled_eq · · s), (he.keySel_eq · s)⟩

/-! ### What a whole step does to the frame FSM and to memory -/

@[simp] theorem State.boundary_mem (s : State) : s.boundary.mem = s.mem := by
  rcases s.boundary_cases with ⟨-, h⟩ | ⟨-, -, h⟩ | ⟨-, -, h⟩ <;> simp [h]

@[simp] theorem State.boundary_config (s : State) : s.boundary.config = s.config := by
  rcases s.boundary_cases with ⟨-, h⟩ | ⟨-, -, h⟩ | ⟨-, -, h⟩ <;> simp [h]

/-- The state a step brings to its boundary check has 2 cycles less, the other elements of the frame FSM as they
were (R82), and memory as it was but for at most one `MemWrite` (R43). -/
theorem step_to_boundary {s t : State} (h : step s = .next t) :
    ∃ u, t = u.boundary ∧ SameFrame (s.setCycles (s.cycles - 2)) u ∧
      (u.mem = s.mem ∨ ∃ (a : Word) (v : Byte), u.mem = (s.memWrite a v).mem) := by
  obtain ⟨u, hu, rfl⟩ := step_next h
  obtain ⟨f, -, he, rfl⟩ := exec_next hu
  refine ⟨_, rfl, he.sameFrame _, ?_⟩
  rcases he.mem_cases (s.fetchInstr.2.charge s.fetchInstr.1) with hm | ⟨a, v, hm⟩
  · exact .inl hm
  · exact .inr ⟨a, v, hm.trans (by simp only [State.memWrite_mem]; rfl)⟩

/-- All a step can do to memory: nothing, or one `MemWrite` (R43). -/
theorem step_mem_cases {s t : State} (h : step s = .next t) :
    t.mem = s.mem ∨ ∃ (a : Word) (v : Byte), t.mem = (s.memWrite a v).mem := by
  obtain ⟨u, rfl, -, hm⟩ := step_to_boundary h
  simpa using hm

theorem step_mem_wf {s t : State} (h : step s = .next t) (hs : s.mem.wf) : t.mem.wf := by
  rcases step_mem_cases h with hm | ⟨a, v, hm⟩
  · exact hm ▸ hs
  · exact hm ▸ State.memWrite_wf hs a v

/-- Settles O53: a step changes memory by at most one guarded write. -/
theorem theImageIsReadOnly : Obligations.TheImageIsReadOnly := by
  intro s t a h ha
  have hram : isRam (a12 a.toNat) = false := by
    rw [isRam, ← Bool.decide_and]; exact decide_eq_false ha
  rcases step_mem_cases h with hm | ⟨b, v, hm⟩
  · simp only [State.memRead, hm]
  · calc t.memRead a = (s.memWrite b v).memRead a := by simp only [State.memRead, hm]
      _ = s.memRead a := State.memWrite_image s b a v hram

/-- The boundary check finds `Cycles` at 0 or above, or assigns one of the budgets (R84, R313, R314). -/
theorem State.boundary_cycles_bounds {s : State}
    (h : s.cycles ≤ max (s.config.budgetActive : Int) (s.config.budgetPrelim : Int)) :
    0 ≤ s.boundary.cycles ∧ s.boundary.cycles ≤ max (s.config.budgetActive : Int) (s.config.budgetPrelim : Int) := by
  rcases s.boundary_cases with ⟨hc, e⟩ | ⟨-, -, e⟩ | ⟨-, -, e⟩
  · exact e ▸ ⟨hc, h⟩
  · rw [e, leaveActiveDisplay_cycles]
    exact ⟨Int.natCast_nonneg _, Int.le_max_right ..⟩
  · rw [e, leaveInterruptPreliminary_cycles]
    exact ⟨Int.natCast_nonneg _, Int.le_max_left ..⟩

/-- Settles O50: the write of a step keeps memory canonical, and the boundary check brings `Cycles` back into its
range. -/
theorem everyStepKeepsTheInvariant : Obligations.EveryStepKeepsTheInvariant := by
  intro s t hs h
  obtain ⟨u, rfl, ⟨hcyc, -, -, -, -, hcfg⟩, -⟩ := step_to_boundary h
  simp only [State.setCycles_cycles, State.setCycles_config] at hcyc hcfg
  have hle : u.cycles ≤ max (u.config.budgetActive : Int) (u.config.budgetPrelim : Int) := by
    have := hs.cycles_le
    rw [hcyc, hcfg]
    omega
  obtain ⟨hlow, hhigh⟩ := State.boundary_cycles_bounds hle
  exact ⟨step_mem_wf h hs.mem_wf, hlow, by rwa [State.boundary_config]⟩

/-! ### Reset -/

/-- Every start state meets the invariant: `BUDGET_ACTIVE` is one of the two budgets (R28). -/
theorem start_inv (cfg : Config) {m : Memory} (hm : m.wf) : (State.start cfg m).Inv :=
  ⟨hm, Int.natCast_nonneg _, Int.le_max_left ..⟩

/-- Settles O51: `State.reset` is the start state with no cell listed. -/
theorem resetMeetsTheInvariant : Obligations.ResetMeetsTheInvariant :=
  ⟨start_inv _ ⟨.nil, by simp⟩, fun cfg _ hm => start_inv cfg hm⟩

@[simp] theorem State.hostReset_reg (s : State) (n : RegNo) : s.hostReset.reg n = 0#16 := by
  simp [reg, hostReset, start]

/-- Settles O58: every register is 0, so `R[P]` is; every other element has the value `hostReset` writes out. -/
theorem resetValues : Obligations.ResetValues := by
  intro s
  exact ⟨s.hostReset_reg, rfl, rfl, rfl, rfl, rfl, rfl, rfl, rfl, rfl, rfl, rfl, rfl, rfl, rfl, fun _ => rfl,
    ⟨rfl, rfl, rfl⟩, s.hostReset_reg 0#4⟩

/-! ### The screen window -/

/-- The base the window latch takes from `w`, on numbers (R315, D22). -/
theorem windowBase_toNat (w : Word) :
    ((w &&& 0x0F00#16).extractLsb' 0 12).toNat = w.toNat / 256 % 16 * 256 := by
  have h : (w &&& 0x0F00#16).extractLsb' 0 12 = (w.extractLsb' 8 4).setWidth 12 <<< 8 := by
    ext j hj
    interval_cases j <;> simp
  rw [h, BitVec.toNat_shiftLeft, BitVec.toNat_setWidth, BitVec.extractLsb'_toNat, Nat.shiftRight_eq_div_pow,
    Nat.shiftLeft_eq]
  omega

theorem loByte_toNat (w : Word) : (loByte w).toNat = w.toNat % 256 := by
  simp [loByte]

theorem State.getScreenBase_eq_none (s : State) : s.getScreenBase = none ↔ s.displayEnabled = false := by
  simp [getScreenBase]

theorem State.screenBase_of_getScreenBase {s : State} {base : Addr12} (h : s.getScreenBase = some base) :
    s.screenBase = base := by
  simp_all [getScreenBase]

/-- All a step can do to the screen window: nothing, or latch it from `R[0]` and emit `FrameSync()` at the end of an
`InterruptPreliminary` phase (R314, R315, R329). -/
theorem step_window_cases {s t : State} (h : step s = .next t) :
    (t.signal ≠ .interruptPreliminaryEnded ∧ t.screenBase = s.screenBase ∧ t.scrollOffset = s.scrollOffset) ∨
    (t.signal = .interruptPreliminaryEnded ∧ t.screenBase = (t.reg 0#4 &&& 0x0F00#16).extractLsb' 0 12 ∧
      t.scrollOffset = loByte (t.reg 0#4) ∧ ∃ pre, t.trace = pre ++ [.frameSync]) := by
  obtain ⟨u, rfl, ⟨-, -, hbase, hscroll, -, -⟩, -⟩ := step_to_boundary h
  rcases u.boundary_cases with ⟨-, e⟩ | ⟨-, -, e⟩ | ⟨-, -, e⟩
  · exact .inl (by simpa [e] using ⟨hbase, hscroll⟩)
  · exact .inl (by simpa [e] using ⟨hbase, hscroll⟩)
  · exact .inr (by simp [e])

/-- Settles O45: of the two cases of `step_window_cases`, the signal tells which. -/
theorem theScreenWindowIsLatchedOncePerFrame : Obligations.TheScreenWindowIsLatchedOncePerFrame := by
  intro s t h
  rcases step_window_cases h with ⟨hsig, hbase, hscroll⟩ | ⟨hsig, hbase, hscroll, hsync⟩
  · exact ⟨fun _ => ⟨hbase, hscroll⟩, fun e => absurd e hsig, t.getScreenBase_eq_none, fun _ _ e => absurd e hsig⟩
  · refine ⟨fun e => absurd hsig e, fun _ => ⟨?_, hsync⟩, t.getScreenBase_eq_none, fun base hb _ => ?_⟩
    · rw [State.getScrollOffset, hscroll, loByte_toNat]
    · rw [← State.screenBase_of_getScreenBase hb, hbase, windowBase_toNat]

end Sys2Proof.Machine

/-! PROOFS. Memory and the host's access to it (spec/20_memory.md): the address mask, the write guard, loading an image,
and which instructions write memory. -/

namespace Sys2Proof.Machine

/-! ### The address mask and the write guard (R41, R43) -/

theorem a12_add_mul (a k : Nat) : a12 (a + 0x1000 * k) = a12 a := Nat.add_mul_mod_self_left ..

/-- Narrowing an address to a register's 16 bits does not change the cell. -/
theorem a12_mod_word (a : Nat) : a12 (a % 65536) = a12 a := Nat.mod_mod_of_dvd a (by decide)

theorem a12_ofNat (a : Nat) : a12 (BitVec.ofNat 16 a).toNat = a12 a := by
  rw [BitVec.toNat_ofNat, a12_mod_word]

theorem a12_toNat_add_mul (a : Word) (k : Nat) : a12 (a + BitVec.ofNat 16 (0x1000 * k)).toNat = a12 a.toNat := by
  rw [BitVec.toNat_add, BitVec.toNat_ofNat, Nat.add_mod_mod, a12_mod_word, a12_add_mul]

/-- Two addresses less than 4096 apart are different cells. -/
theorem a12_add_ne {j : Nat} (base : Nat) (hpos : 0 < j) (hj : j < 4096) : a12 (base + j) ≠ a12 base := by
  unfold a12; omega

theorem isRam_a12 (a : Nat) : isRam (a12 a) = true ↔ 0x800 ≤ a % 4096 ∧ a % 4096 ≤ 0x9FF := by
  rw [isRam, ← Bool.decide_and]
  exact decide_eq_true_iff

namespace State

theorem memRead_congr (s : State) {a b : Word} (h : a12 a.toNat = a12 b.toNat) : s.memRead a = s.memRead b := by
  simp only [memRead, h]

theorem memWrite_congr (s : State) {a b : Word} (h : a12 a.toNat = a12 b.toNat) (v : Byte) :
    s.memWrite a v = s.memWrite b v := by
  simp only [memWrite, h]

/-! ### The host's access to one cell is an instruction's (R48, R49) -/

theorem readMemory_eq_memRead (s : State) (a : Nat) : s.readMemory a = s.memRead (BitVec.ofNat 16 a) := by
  rw [readMemory, memRead, a12_ofNat]

theorem writeMemory_eq_memWrite (s : State) (a : Nat) (v : Byte) :
    s.writeMemory a v = s.memWrite (BitVec.ofNat 16 a) v := by
  rw [writeMemory, memWrite, a12_ofNat]

theorem readMemory_congr (s : State) {a b : Nat} (h : a12 a = a12 b) : s.readMemory a = s.readMemory b := by
  simp only [readMemory, h]

theorem writeMemory_congr (s : State) {a b : Nat} (h : a12 a = a12 b) (v : Byte) :
    s.writeMemory a v = s.writeMemory b v := by
  simp only [writeMemory, h]

/-- A write changes nothing but memory. -/
theorem memWrite_sameOutside (s : State) (a : Word) (v : Byte) : SameOutside s (s.memWrite a v) := by
  simp [SameOutside, SameFrame, SameLatches, SameIO]

theorem memWrite_snapshot (s : State) (a : Word) (v : Byte) : (s.memWrite a v).snapshot = s.snapshot := by
  simp [snapshot]

end State

/-- Settles O57: addresses with the same low 12 bits are the same cell, and a cell is all an access uses of its
address. -/
theorem addressesAreMaskedToTwelveBits : Obligations.AddressesAreMaskedToTwelveBits := by
  intro s a k n v
  exact ⟨s.memRead_congr (a12_toNat_add_mul a k), s.memWrite_congr (a12_toNat_add_mul a k) v,
    s.readMemory_congr (a12_add_mul n k), s.writeMemory_congr (a12_add_mul n k) v, rfl⟩

/-- Settles O59: the host's write is the write of an instruction, so what is known of that holds of it. -/
theorem hostWritesAreGuarded : Obligations.HostWritesAreGuarded := by
  intro s a v hs
  obtain ⟨hsame, hother⟩ := State.memWrite_storedAt hs (BitVec.ofNat 16 a) v
  rw [State.writeMemory_eq_memWrite]
  refine ⟨?_, fun b hb => ?_, s.memWrite_snapshot _ v, s.memWrite_sameOutside _ v⟩
  · simpa only [State.readMemory_eq_memRead, a12_ofNat, isRam_a12] using hsame
  · rw [State.readMemory_eq_memRead, State.readMemory_eq_memRead]
    exact hother _ (by rwa [a12_ofNat, a12_ofNat])

/-! ### Loading an image (R50) -/

namespace Memory

/-- An image is loaded byte by byte. -/
theorem loadBytes_cons (m : Memory) (base : Nat) (b : Byte) (bs : List Byte) :
    loadBytes m base (b :: bs) = loadBytes (loadBytes m base [b]) (base + 1) bs := rfl

theorem loadByte_read_same {m : Memory} (h : m.wf) (base : Nat) (b : Byte) :
    (loadBytes m base [b]).read (a12 base) = if isRam (a12 base) then m.read (a12 base) else b := by
  simp only [loadBytes]
  split
  · rfl
  · exact read_write_same h _ b

theorem loadByte_read_other (m : Memory) {base c : Nat} (hne : c ≠ a12 base) (b : Byte) :
    (loadBytes m base [b]).read c = m.read c := by
  simp only [loadBytes]
  split
  · rfl
  · exact read_write_other m hne b

/-- A cell no byte of the image goes to keeps its byte. -/
theorem loadBytes_read_other (bs : List Byte) (m : Memory) {base c : Nat}
    (hne : ∀ k, k < bs.length → a12 (base + k) ≠ c) : (loadBytes m base bs).read c = m.read c := by
  induction bs generalizing m base with
  | nil => rfl
  | cons b bs ih =>
    have hhead : c ≠ a12 base := (hne 0 (by simp)).symm
    have htail : ∀ k, k < bs.length → a12 (base + 1 + k) ≠ c := by
      intro k hk
      rw [Nat.add_assoc, Nat.add_comm 1 k]
      exact hne (k + 1) (by simpa using hk)
    rw [loadBytes_cons, ih _ htail, loadByte_read_other m hhead]

/-- The cell of byte `k` holds it unless it is protected. An image of at most 4096 bytes puts no other byte there. -/
theorem loadBytes_read_same {bs : List Byte} (hlen : bs.length ≤ 4096) {m : Memory} (h : m.wf) (base : Nat) {k : Nat}
    (hk : k < bs.length) : (loadBytes m base bs).read (a12 (base + k)) =
      if isRam (a12 (base + k)) then m.read (a12 (base + k)) else bs[k] := by
  induction bs generalizing m base k with
  | nil => exact absurd hk (Nat.not_lt_zero k)
  | cons b bs ih =>
    rw [List.length_cons] at hlen hk
    rw [loadBytes_cons]
    cases k with
    | zero =>
      have hne : ∀ j, j < bs.length → a12 (base + 1 + j) ≠ a12 base := by
        intro j hj
        rw [Nat.add_assoc]
        exact a12_add_ne base (by omega) (by omega)
      exact (loadBytes_read_other bs _ hne).trans (loadByte_read_same h base b)
    | succ k =>
      have hne : a12 (base + (k + 1)) ≠ a12 base := a12_add_ne base (by omega) (by omega)
      have hrest := ih (by omega) (loadBytes_wf [b] base h) (base + 1) (k := k) (by omega)
      rw [Nat.add_assoc, Nat.add_comm 1 k, loadByte_read_other m hne] at hrest
      exact hrest

end Memory

/-- Settles O60: the byte of the image, or the guard, decides a cell the image covers; every other cell keeps its
byte. -/
theorem loadImageFillsTheImage : Obligations.LoadImageFillsTheImage := by
  intro s bytes base hs hlen
  refine ⟨fun k hk => ?_, fun a ha => Memory.loadBytes_read_other bytes s.mem ha⟩
  simpa only [isRam_a12, Nat.lt_succ_iff, State.readMemory, State.loadImage] using
    Memory.loadBytes_read_same hlen hs base hk

/-! ### What the host does keeps the invariant -/

namespace State.Inv

variable {s t : State}

/-- Between two steps only memory, `Cycles` and the budgets matter to the invariant. -/
theorem of_mem_wf (hs : s.Inv) (hm : t.mem.wf) (hcyc : t.cycles = s.cycles) (hcfg : t.config = s.config) : t.Inv :=
  ⟨hm, hcyc ▸ hs.cycles_nonneg, by rw [hcyc, hcfg]; exact hs.cycles_le⟩

theorem memWrite (hs : s.Inv) (a : Word) (v : Byte) : (s.memWrite a v).Inv :=
  hs.of_mem_wf (memWrite_wf hs.mem_wf a v) (memWrite_cycles s a v) (memWrite_config s a v)

theorem writeMemory (hs : s.Inv) (a : Nat) (v : Byte) : (s.writeMemory a v).Inv :=
  writeMemory_eq_memWrite s a v ▸ hs.memWrite _ v

theorem loadImage (hs : s.Inv) (bytes : List Byte) (base : Nat) : (s.loadImage bytes base).Inv :=
  hs.of_mem_wf (Memory.loadBytes_wf bytes base hs.mem_wf) rfl rfl

/-- `reset()` gives the start state for the memory it finds, but for the model's own fields. -/
theorem hostReset (hs : s.Inv) : s.hostReset.Inv :=
  (start_inv s.config hs.mem_wf).of_mem_wf hs.mem_wf rfl rfl

end State.Inv

/-- Settles O52: each action of the host keeps memory canonical and leaves `Cycles` alone or assigns it a budget. -/
theorem hostActionsKeepTheInvariant : Obligations.HostActionsKeepTheInvariant := by
  intro s t a hexec hs h
  cases a with
  | execute => exact absurd rfl hexec
  | reset => exact Host.Outcome.next.inj h ▸ hs.hostReset
  | writeMemory a v => exact Host.Outcome.next.inj h ▸ hs.writeMemory a v
  | loadImage bytes base => exact Host.Outcome.next.inj h ▸ hs.loadImage bytes base
  | answerKeypad b => exact Host.Outcome.next.inj h ▸ hs.of_mem_wf hs.mem_wf rfl rfl

/-! ### The instructions that write memory (R58) -/

/-- The opcodes R58 names as writers of memory: STR, INP (D14), STXD, SAV and MARK. -/
def storeOpcodes : List Byte :=
  [0x50#8, 0x51#8, 0x52#8, 0x53#8, 0x54#8, 0x55#8, 0x56#8, 0x57#8, 0x58#8, 0x59#8, 0x5A#8, 0x5B#8, 0x5C#8, 0x5D#8,
   0x5E#8, 0x5F#8, 0x69#8, 0x6A#8, 0x6B#8, 0x6C#8, 0x6D#8, 0x6E#8, 0x6F#8, 0x73#8, 0x78#8, 0x79#8]

@[simp] theorem shortBranch_mem (c : Bool) (b : Byte) (s : State) : (shortBranch c b s).mem = s.mem := by
  simp [shortBranch_eq]

@[simp] theorem flagBranch_mem (id : Nat) (sense : Bool) (b : Byte) (s : State) :
    (flagBranch id sense b s).mem = s.mem := by
  simp [flagBranch_eq]

@[simp] theorem longBranch_mem (c : Bool) (a : Word) (s : State) : (longBranch c a s).mem = s.mem := by
  simp [longBranch_eq]

@[simp] theorem longSkip_mem (c : Bool) (s : State) : (longSkip c s).mem = s.mem := by
  simp [longSkip_eq]

@[simp] theorem output_mem (p : Port) (s : State) : (output p s).mem = s.mem := by
  simp [output]

/-- An instruction that is not a store has no `MemWrite`: branches, skips, outputs and REQ and SEQ by what their
operations do, the others by the fields their bodies assign. -/
theorem exec_mem_of_not_store {i : Instr} (hi : ¬OpcodeIn storeOpcodes i) (s : State) :
    ∃ t, exec i s = .next t ∧ t.mem = s.mem := by
  cases i with
  | str0 | str1 | str2 | str3 | str4 | str5 | str6 | str7 | str8 | str9 | strA | strB | strC | strD | strE | strF
  | inp1 | inp2 | inp3 | inp4 | inp5 | inp6 | inp7 | stxd | sav | mark => exact absurd ⟨_, by decide, rfl⟩ hi
  | br | bq | bz | bdf | skp | bnq | bnz | bnf => exact ⟨_, rfl, shortBranch_mem ..⟩
  | b1 | b2 | b3 | b4 | bn1 | bn2 | bn3 | bn4 => exact ⟨_, rfl, flagBranch_mem ..⟩
  | lbr | lbq | lbz | lbdf | lbnq | lbnz | lbnf => exact ⟨_, rfl, longBranch_mem ..⟩
  | nop | lsnq | lsnz | lsnf | lskp | lsie | lsq | lsz | lsdf => exact ⟨_, rfl, longSkip_mem ..⟩
  | out1 | out2 | out3 | out4 | out5 | out6 | out7 => exact ⟨_, rfl, output_mem ..⟩
  | req | seq => exact ⟨_, rfl, State.latchQ_mem ..⟩
  | _ => exact ⟨_, rfl, rfl⟩

/-- Settles O54: equal memories read the same at every address. -/
theorem onlyStoresWriteMemory : Obligations.OnlyStoresWriteMemory := by
  intro i s t h hi a
  obtain ⟨u, hu, hm⟩ := exec_mem_of_not_store hi s
  obtain rfl : u = t := Host.Outcome.next.inj (hu.symm.trans h)
  simp only [State.memRead, hm]

end Sys2Proof.Machine

/-! PROOFS. The encoding (spec/30_encoding.md): the opcode map row by row, the decoder and the encoder on its rows, and
the assembler's lines. -/

namespace Sys2Proof

/-! ### The rows of the opcode map (R61, R66)

A fact about every row of a table is one equation of two lists: the table under one function and under another. -/

theorem encode_plainCodes : ∀ q ∈ plainCodes, encode q.2 = [q.1] := List.map_inj_left.1 rfl

theorem encode_byteCodes (b : Byte) : ∀ q ∈ byteCodes, encode (q.2 b) = [q.1, b] := List.map_inj_left.1 rfl

theorem encode_wordCodes (a : Word) :
    ∀ q ∈ wordCodes, encode (q.2 a) = [q.1, a.extractLsb' 8 8, a.extractLsb' 0 8] := List.map_inj_left.1 rfl

theorem decodeOp_plainCodes : ∀ q ∈ plainCodes, decodeOp q.1 = fmt0 q.2 := List.map_inj_left.1 rfl

theorem decodeOp_byteCodes : ∀ q ∈ byteCodes, decodeOp q.1 = fmt1 q.2 := List.map_inj_left.1 rfl

theorem decodeOp_wordCodes : ∀ q ∈ wordCodes, decodeOp q.1 = fmt2 q.2 := List.map_inj_left.1 rfl

theorem opcodeLength_plainCodes : ∀ q ∈ plainCodes, opcodeLength q.1 = 1 := List.map_inj_left.1 rfl

theorem opcodeLength_byteCodes : ∀ q ∈ byteCodes, opcodeLength q.1 = 2 := List.map_inj_left.1 rfl

theorem opcodeLength_wordCodes : ∀ q ∈ wordCodes, opcodeLength q.1 = 3 := List.map_inj_left.1 rfl

/-- The opcode bytes of the three tables. -/
def mappedOpcodes : List Byte := plainCodes.map (·.1) ++ byteCodes.map (·.1) ++ wordCodes.map (·.1)

/-- In order, the opcodes of the tables are 0 to 255, each once. -/
theorem sorted_mappedOpcodes : (mappedOpcodes.map BitVec.toNat).insertionSort (· ≤ ·) = List.range 256 := by
  decide +kernel

theorem mem_mappedOpcodes (op : Byte) : op ∈ mappedOpcodes := by
  have hsort : op.toNat ∈ (mappedOpcodes.map BitVec.toNat).insertionSort (· ≤ ·) := by
    rw [sorted_mappedOpcodes, List.mem_range]
    exact op.isLt
  rwa [List.mem_insertionSort, List.mem_map_of_injective BitVec.toNat_injective] at hsort

/-- Every opcode byte has a row, in the table of its format. -/
theorem opcode_cases (op : Byte) :
    (∃ q ∈ plainCodes, q.1 = op) ∨ (∃ q ∈ byteCodes, q.1 = op) ∨ ∃ q ∈ wordCodes, q.1 = op := by
  simpa only [mappedOpcodes, List.mem_append, List.mem_map, or_assoc] using mem_mappedOpcodes op

/-! ### The encoder and the decoder's table -/

/-- A long branch's operand bytes, high byte first, are its target (R64). -/
theorem target_of_bytes (a : Word) : (a.extractLsb' 8 8 ++ a.extractLsb' 0 8 : Word) = a :=
  BitVec.extractLsb'_append_extractLsb'

theorem encode_length (i : Instr) : (encode i).length = i.length := by
  cases i <;> rfl

/-- The decoder's table is onto: an instruction stands at its opcode byte. -/
theorem exists_decodeOp_eq (i : Instr) : ∃ op b1 b2, decodeOp op b1 b2 = i := by
  refine ⟨(encode i).headD 0, ?_⟩
  cases i with
  | lbr a | lbq a | lbz a | lbdf a | lbnq a | lbnz a | lbnf a =>
    obtain ⟨hi, lo, rfl⟩ : ∃ hi lo : Byte, hi ++ lo = a := ⟨_, _, target_of_bytes a⟩
    dsimp only [encode, List.headD_cons]
    exact ⟨hi, lo, rfl⟩
  | br b | bq b | bz b | bdf b | b1 b | b2 b | b3 b | b4 b | skp b | bnq b | bnz b | bnf b | bn1 b | bn2 b | bn3 b
  | bn4 b | adci b | sdbi b | smbi b | ldi b | ori b | ani b | xri b | adi b | sdi b | smi b =>
    dsimp only [encode, List.headD_cons]
    exact ⟨b, 0, rfl⟩
  | _ => exact ⟨0, 0, rfl⟩

/-- Every instruction has a row, which gives it for some value of its operand. -/
theorem instr_cases (i : Instr) :
    (∃ q ∈ plainCodes, q.2 = i) ∨ (∃ q ∈ byteCodes, ∃ b, q.2 b = i) ∨ ∃ q ∈ wordCodes, ∃ a, q.2 a = i := by
  obtain ⟨op, b1, b2, rfl⟩ := exists_decodeOp_eq i
  rcases opcode_cases op with ⟨q, hq, rfl⟩ | ⟨q, hq, rfl⟩ | ⟨q, hq, rfl⟩
  · exact .inl ⟨q, hq, by rw [decodeOp_plainCodes q hq, fmt0]⟩
  · exact .inr (.inl ⟨q, hq, b1, by rw [decodeOp_byteCodes q hq, fmt1]⟩)
  · exact .inr (.inr ⟨q, hq, b1 ++ b2, by rw [decodeOp_wordCodes q hq, fmt2]⟩)

theorem decodeOp_length (op b1 b2 : Byte) : (decodeOp op b1 b2).length = opcodeLength op := by
  rcases opcode_cases op with ⟨q, hq, rfl⟩ | ⟨q, hq, rfl⟩ | ⟨q, hq, rfl⟩
  · rw [decodeOp_plainCodes q hq, fmt0, ← encode_length, encode_plainCodes q hq, opcodeLength_plainCodes q hq]; rfl
  · rw [decodeOp_byteCodes q hq, fmt1, ← encode_length, encode_byteCodes b1 q hq, opcodeLength_byteCodes q hq]; rfl
  · rw [decodeOp_wordCodes q hq, fmt2, ← encode_length, encode_wordCodes _ q hq, opcodeLength_wordCodes q hq]; rfl

/-! ### The decoder on a list of bytes (R60, R67) -/

/-- Whether a list is refused depends on its opcode's length alone. -/
theorem decode_cons (op : Byte) (rest : List Byte) :
    decode (op :: rest) = if rest.length + 1 < opcodeLength op then .error (.missingOperand op)
      else .ok (decodeOp op (rest.getD 0 0) (rest.getD 1 0), rest.drop (opcodeLength op - 1)) := by
  simp only [decode, decodeOp_length]

theorem decode_plainCodes (rest : List Byte) : ∀ q ∈ plainCodes, decode (q.1 :: rest) = .ok (q.2, rest) := by
  intro q hq
  simp [decode_cons, opcodeLength_plainCodes q hq, decodeOp_plainCodes q hq, fmt0]

theorem decode_byteCodes (b : Byte) (rest : List Byte) :
    ∀ q ∈ byteCodes, decode (q.1 :: b :: rest) = .ok (q.2 b, rest) := by
  intro q hq
  simp [decode_cons, opcodeLength_byteCodes q hq, decodeOp_byteCodes q hq, fmt1]

theorem decode_wordCodes (hi lo : Byte) (rest : List Byte) :
    ∀ q ∈ wordCodes, decode (q.1 :: hi :: lo :: rest) = .ok (q.2 (hi ++ lo), rest) := by
  intro q hq
  simp [decode_cons, opcodeLength_wordCodes q hq, decodeOp_wordCodes q hq, fmt2]

/-- All a decoded list can be: an opcode, the operand bytes of its row, and the rest. -/
theorem decode_ok_cases {bs rest : List Byte} {i : Instr} (h : decode bs = .ok (i, rest)) :
    (∃ q ∈ plainCodes, bs = q.1 :: rest ∧ i = q.2) ∨
    (∃ q ∈ byteCodes, ∃ b, bs = q.1 :: b :: rest ∧ i = q.2 b) ∨
    ∃ q ∈ wordCodes, ∃ hi lo : Byte, bs = q.1 :: hi :: lo :: rest ∧ i = q.2 (hi ++ lo) := by
  cases bs with
  | nil => cases h
  | cons op tl =>
    rcases opcode_cases op with ⟨q, hq, rfl⟩ | ⟨q, hq, rfl⟩ | ⟨q, hq, rfl⟩
    · cases (decode_plainCodes tl q hq).symm.trans h
      exact .inl ⟨q, hq, rfl, rfl⟩
    · match tl with
      | [] => simp [decode_cons, opcodeLength_byteCodes q hq] at h
      | b :: tl =>
        cases (decode_byteCodes b tl q hq).symm.trans h
        exact .inr (.inl ⟨q, hq, b, rfl, rfl⟩)
    · match tl with
      | [] | [_] => simp [decode_cons, opcodeLength_wordCodes q hq] at h
      | hi :: lo :: tl =>
        cases (decode_wordCodes hi lo tl q hq).symm.trans h
        exact .inr (.inr ⟨q, hq, hi, lo, rfl, rfl⟩)

/-- The target of a long branch with operand bytes `hi`, `lo` is encoded as these bytes (R64). -/
theorem encode_wordCodes_append (hi lo : Byte) :
    ∀ q ∈ wordCodes, encode (q.2 (hi ++ lo)) = [q.1, hi, lo] := by
  intro q hq
  rw [encode_wordCodes _ q hq, BitVec.extractLsb'_append_eq_left, BitVec.extractLsb'_append_eq_right]

/-- Settles O33: an instruction is encoded as its row says, and the decoder gives that row back. -/
theorem decodeOfEncode : Obligations.DecodeOfEncode := by
  intro i rest
  rcases instr_cases i with ⟨q, hq, rfl⟩ | ⟨q, hq, b, rfl⟩ | ⟨q, hq, a, rfl⟩
  · rw [encode_plainCodes q hq]
    exact decode_plainCodes rest q hq
  · rw [encode_byteCodes b q hq]
    exact decode_byteCodes b rest q hq
  · rw [encode_wordCodes a q hq]
    exact (decode_wordCodes _ _ rest q hq).trans (by rw [target_of_bytes])

/-- Settles O34: the bytes the decoder read are the row's encoding. -/
theorem encodeOfDecode : Obligations.EncodeOfDecode := by
  intro bs rest i h
  rcases decode_ok_cases h with ⟨q, hq, rfl, rfl⟩ | ⟨q, hq, b, rfl, rfl⟩ | ⟨q, hq, hi, lo, rfl, rfl⟩
  · rw [encode_plainCodes q hq]; rfl
  · rw [encode_byteCodes b q hq]; rfl
  · rw [encode_wordCodes_append hi lo q hq]; rfl

/-- Settles O35: the length of the opcode's instruction is the only thing the decoder checks. -/
theorem everyByteDecodes : Obligations.EveryByteDecodes := by
  refine ⟨fun op rest hlen => ⟨_, by rw [decode_cons, if_neg (Nat.not_lt.2 hlen)]⟩, fun bs e => ?_⟩
  cases bs with
  | nil => simp [decode, eq_comm]
  | cons op rest =>
    by_cases hshort : rest.length + 1 < opcodeLength op
    · simp [decode_cons, hshort, eq_comm]
    · simp [decode_cons, hshort]

/-- Settles O36: the rows of the three tables, then closed words. -/
theorem writtenWordsDecode : Obligations.WrittenWordsDecode := by
  refine ⟨mem_mappedOpcodes, fun q hq => ⟨encode_plainCodes q hq, fun rest => decode_plainCodes rest q hq⟩,
    fun q hq b => ⟨encode_byteCodes b q hq, fun rest => decode_byteCodes b rest q hq⟩,
    fun q hq hi lo => ⟨encode_wordCodes_append hi lo q hq, fun rest => decode_wordCodes hi lo rest q hq⟩, ?_⟩
  exact ⟨rfl, rfl, rfl, rfl, rfl, rfl, rfl, rfl, rfl, rfl, rfl⟩

/-! ### The assembler's lines (R68) -/

/-- The row a number finds is one with that number. -/
theorem exists_mem_of_rowNumbered {w n : Nat} {rows : List (Instr × BitVec w)} {i : Instr}
    (h : rowNumbered rows n = some i) : ∃ q ∈ rows, q.1 = i ∧ q.2.toNat = n := by
  obtain ⟨q, hfind, rfl⟩ := Option.map_eq_some_iff.1 h
  have hn := List.find?_some hfind
  exact ⟨q, List.mem_of_find?_eq_some hfind, rfl, beq_iff_eq.1 hn⟩

/-- A number finds a row iff a row has it. -/
theorem exists_rowNumbered_iff {w n : Nat} {rows : List (Instr × BitVec w)} :
    (∃ i, rowNumbered rows n = some i) ↔ n ∈ rows.map (·.2.toNat) := by
  rw [rowNumbered, ← Option.isSome_iff_exists, Option.isSome_map, List.find?_isSome]
  simp

theorem regOperandOk_iff (m : RegMnemonic) (n : Nat) : regOperandOk m n = true ↔ n ∈ m.rows.map (·.2.toNat) := by
  have hnumbers : m.rows.map (·.2.toNat) = (List.range 16).filter (fun n => m != .ldn || n != 0) := by
    cases m <;> rfl
  rw [hnumbers, List.mem_filter, List.mem_range, regOperandOk, Bool.and_eq_true, decide_eq_true_iff]

theorem portOperandOk_iff (m : PortMnemonic) (p : Nat) : portOperandOk p = true ↔ p ∈ m.rows.map (·.2.toNat) := by
  have hnumbers : m.rows.map (·.2.toNat) = List.range' 1 7 := by
    cases m <;> rfl
  rw [hnumbers, List.mem_range'_1, portOperandOk, Bool.and_eq_true, decide_eq_true_iff, decide_eq_true_iff]
  omega

/-- The opcodes of a register mnemonic are a family: the high nibble is the mnemonic's, the low nibble the register. -/
theorem exists_encode_regRows (m : RegMnemonic) : ∃ hi : BitVec 4, ∀ q ∈ m.rows, encode q.1 = [hi ++ q.2] := by
  cases m with
  | ldn => exact ⟨0x0#4, by decide⟩
  | inc => exact ⟨0x1#4, by decide⟩
  | dec => exact ⟨0x2#4, by decide⟩
  | lda => exact ⟨0x4#4, by decide⟩
  | str => exact ⟨0x5#4, by decide⟩
  | glo => exact ⟨0x8#4, by decide⟩
  | ghi => exact ⟨0x9#4, by decide⟩
  | plo => exact ⟨0xA#4, by decide⟩
  | phi => exact ⟨0xB#4, by decide⟩
  | sep => exact ⟨0xD#4, by decide⟩
  | sex => exact ⟨0xE#4, by decide⟩

/-- The opcodes of a port mnemonic: the upper five bits are the mnemonic's, the lower three the port. -/
theorem exists_encode_portRows (m : PortMnemonic) : ∃ hi : BitVec 5, ∀ q ∈ m.rows, encode q.1 = [hi ++ q.2] := by
  cases m with
  | out => exact ⟨0b01100#5, by decide⟩
  | inp => exact ⟨0b01101#5, by decide⟩

theorem append_toNat_mod {v w : Nat} (hi : BitVec v) (lo : BitVec w) : (hi ++ lo).toNat % 2 ^ w = lo.toNat := by
  rw [BitVec.toNat_append, ← Nat.shiftLeft_add_eq_or_of_lt lo.isLt, Nat.shiftLeft_eq, Nat.mul_add_mod_self_right,
    Nat.mod_eq_of_lt lo.isLt]

theorem wellFormed_iff_assembles (l : Asm) : l.wellFormed = true ↔ ∃ i, l.instr? = some i := by
  cases l with
  | reg m n => exact (regOperandOk_iff m n).trans exists_rowNumbered_iff.symm
  | port m p => exact (portOperandOk_iff m p).trans exists_rowNumbered_iff.symm
  | imm m v | short m v => by_cases h : v < 256 <;> simp [Asm.wellFormed, Asm.instr?, byteOperandOk, h]
  | long m a => by_cases h : a < 65536 <;> simp [Asm.wellFormed, Asm.instr?, wordOperandOk, h]
  | plain m => simp [Asm.wellFormed, Asm.instr?]

/-- Settles O37: an operand is admitted iff a row has its number, and a row's opcode ends in the number. -/
theorem wellFormedLinesAssemble : Obligations.WellFormedLinesAssemble := by
  refine ⟨wellFormed_iff_assembles, fun m n i h => ?_, fun m p i h => ?_⟩
  · obtain ⟨q, hq, rfl, rfl⟩ := exists_mem_of_rowNumbered h
    obtain ⟨hi, hhi⟩ := exists_encode_regRows m
    exact ⟨_, hhi q hq, append_toNat_mod hi q.2⟩
  · obtain ⟨q, hq, rfl, rfl⟩ := exists_mem_of_rowNumbered h
    obtain ⟨hi, hhi⟩ := exists_encode_portRows m
    exact ⟨_, hhi q hq, append_toNat_mod hi q.2⟩

end Sys2Proof

/-! PROOFS. Execute and the ALU (spec/40_execute_and_alu.md): the arithmetic on `D` and `DF`, what a step is made of, and
how long a phase lasts. -/

namespace Sys2Proof.Machine

/-! ### The arithmetic on `D` and `DF` (R85 to R88) -/

/-- Writing `D` and `DF` together changes nothing else. -/
theorem State.setArith_sameBut (s : State) (v : Byte × Bool) : SameBut [] s (s.setArith v) := by
  simp [SameBut, SameRegsBut, SameMem, SameControl, SameOutside, SameFrame, SameLatches, SameIO]

/-- R86 on integers, where the exact difference may be negative. -/
theorem subB_spec_int (m s : Byte) (bin : Bool) :
    ((subB m s bin).1.toNat : Int) = ((m.toNat : Int) - s.toNat - (1 - bin.toNat)) % 256 ∧
      ((subB m s bin).2 = true ↔ 0 ≤ (m.toNat : Int) - s.toNat - (1 - bin.toNat)) := by
  obtain ⟨hdiff, hcarry⟩ := subB_spec m s bin
  have hs := s.isLt
  have hbin := bin.toNat_le
  rw [hdiff, hcarry]
  omega

/-- R86 without a borrow: the difference of the two bytes. -/
theorem subB_true_spec_int (m s : Byte) :
    ((subB m s true).1.toNat : Int) = ((m.toNat : Int) - s.toNat) % 256 ∧
      ((subB m s true).2 = true ↔ 0 ≤ (m.toNat : Int) - s.toNat) := by
  simpa using subB_spec_int m s true

/-- Settles O19: ADD and ADC are `addC` with carry 0 and with `DF`. -/
theorem addsViaX : Obligations.AddsViaX := by
  refine List.forall_mem_cons.2 ⟨fun s => ?add, List.forall_mem_singleton.2 fun s => ?adc⟩
  case add =>
    obtain ⟨hd, hdf⟩ := addC_spec s.dataByte s.d false
    exact ⟨_, rfl, hd, hdf, s.setArith_sameBut _⟩
  case adc =>
    obtain ⟨hd, hdf⟩ := addC_spec s.dataByte s.d s.df
    exact ⟨_, rfl, hd, hdf, s.setArith_sameBut _⟩

/-- Settles O20: the four are `subB` with either order of the operands, without a borrow and with `DF`. -/
theorem subtractsViaX : Obligations.SubtractsViaX := by
  refine List.forall_mem_cons.2 ⟨fun s => ?sd, List.forall_mem_cons.2 ⟨fun s => ?sdb,
    List.forall_mem_cons.2 ⟨fun s => ?sm, List.forall_mem_singleton.2 fun s => ?smb⟩⟩⟩
  case sd =>
    obtain ⟨hd, hdf⟩ := subB_true_spec_int s.dataByte s.d
    exact ⟨_, rfl, hd, hdf, s.setArith_sameBut _⟩
  case sdb =>
    obtain ⟨hd, hdf⟩ := subB_spec_int s.dataByte s.d s.df
    exact ⟨_, rfl, hd, hdf, s.setArith_sameBut _⟩
  case sm =>
    obtain ⟨hd, hdf⟩ := subB_true_spec_int s.d s.dataByte
    exact ⟨_, rfl, hd, hdf, s.setArith_sameBut _⟩
  case smb =>
    obtain ⟨hd, hdf⟩ := subB_spec_int s.d s.dataByte s.df
    exact ⟨_, rfl, hd, hdf, s.setArith_sameBut _⟩

/-- Settles O21: the four are `shrC` and `shlC`, shifting and rotating. -/
theorem shiftsAndRotates : Obligations.ShiftsAndRotates := by
  refine ⟨List.forall_mem_cons.2 ⟨fun s => ?shr, List.forall_mem_singleton.2 fun s => ?shrc⟩,
    List.forall_mem_cons.2 ⟨fun s => ?shl, List.forall_mem_singleton.2 fun s => ?shlc⟩⟩
  case shr =>
    obtain ⟨hd, hdf⟩ := shrC_spec s.d false false
    exact ⟨_, rfl, hd, hdf, s.setArith_sameBut _⟩
  case shrc =>
    obtain ⟨hd, hdf⟩ := shrC_spec s.d s.df true
    exact ⟨_, rfl, hd, hdf, s.setArith_sameBut _⟩
  case shl =>
    obtain ⟨hd, hdf⟩ := shlC_spec s.d false false
    exact ⟨_, rfl, Nat.mul_comm s.d.toNat 2 ▸ hd, hdf, s.setArith_sameBut _⟩
  case shlc =>
    obtain ⟨hd, hdf⟩ := shlC_spec s.d s.df true
    exact ⟨_, rfl, Nat.mul_comm s.d.toNat 2 ▸ hd, hdf, s.setArith_sameBut _⟩

/-! ### What a step is made of (R80 to R84) -/

/-- Fetch and charge, with the 2 cycles of R82 written out. -/
theorem step_eq (s : State) :
    step s = finishStep (exec s.fetchInstr.1 ((s.setPc (s.pc + 1#16)).setCycles (s.cycles - 2))) := rfl

/-- The instruction a list decodes to is the one the decoder's table has for its opcode and the bytes after it. -/
theorem decodeOp_of_decode_cons {op : Byte} {bs rest : List Byte} {i : Instr} (h : decode (op :: bs) = .ok (i, rest)) :
    decodeOp op (bs.getD 0 0) (bs.getD 1 0) = i := by
  rw [decode_cons] at h
  split at h
  · cases h
  · exact (Prod.mk.inj (Except.ok.inj h)).1

/-- Settles O38: the bytes at `R[P]` are what the fetch decodes, and `boundary` is the check after the instruction. -/
theorem stepRunsTheDecodedInstruction : Obligations.StepRunsTheDecodedInstruction := by
  intro s i rest hdec t hexec
  have hfetch : s.fetchInstr.1 = i := decodeOp_of_decode_cons hdec
  rw [step_eq, hfetch, hexec]
  rfl

/-- Settles O39: every instruction answers a next state, and the boundary check keeps it. -/
theorem everyStepHasANextState : Obligations.EveryStepHasANextState := by
  intro s
  obtain ⟨f, hf, -⟩ := exec_effect s.fetchInstr.1
  exact ⟨_, by rw [step_eq, hf, finishStep]⟩

/-! ### How long a phase lasts (R82, R84, R319) -/

theorem step_config {s t : State} (h : step s = .next t) : t.config = s.config := by
  obtain ⟨u, rfl, ⟨-, -, -, -, -, hconfig⟩, -⟩ := step_to_boundary h
  rw [State.boundary_config, hconfig, State.setCycles_config]

/-- All a step can do to `Cycles`, the phase and the signal: charge 2 cycles inside a phase, or end it. -/
theorem step_phase_cases {s t : State} (h : step s = .next t) :
    (2 ≤ s.cycles ∧ t.cycles = s.cycles - 2 ∧ t.phase = s.phase ∧ t.signal = .none) ∨
    (s.cycles < 2 ∧ s.phase = .activeDisplay ∧
      t.cycles = (s.config.budgetPrelim : Int) ∧ t.phase = .interruptPreliminary ∧ t.signal = .activeDisplayEnded) ∨
    (s.cycles < 2 ∧ s.phase = .interruptPreliminary ∧
      t.cycles = (s.config.budgetActive : Int) ∧ t.phase = .activeDisplay ∧
      t.signal = .interruptPreliminaryEnded) := by
  obtain ⟨u, rfl, ⟨hcycles, hphase, -, -, -, hconfig⟩, -⟩ := step_to_boundary h
  simp only [State.setCycles_cycles, State.setCycles_phase, State.setCycles_config] at hcycles hphase hconfig
  rcases u.boundary_cases with ⟨hc, e⟩ | ⟨hc, hp, e⟩ | ⟨hc, hp, e⟩
  · exact .inl ⟨by omega, by simp [e, hcycles], by simp [e, hphase], by simp [e]⟩
  · exact .inr (.inl ⟨by omega, hphase ▸ hp, by simp [e, hconfig], by simp [e], by simp [e]⟩)
  · exact .inr (.inr ⟨by omega, hphase ▸ hp, by simp [e, hconfig], by simp [e], by simp [e]⟩)

/-- Settles O40: `Cycles` and the phase before the step tell the cases of `step_phase_cases` apart. -/
theorem everyStepTakesTwoCycles : Obligations.EveryStepTakesTwoCycles := by
  intro s t h
  rcases step_phase_cases h with ⟨hc, hstay⟩ | ⟨hc, hp, hend⟩ | ⟨hc, hp, hend⟩
  · exact ⟨fun _ => hstay, fun hlt => absurd hc (by omega), fun hlt => absurd hc (by omega)⟩
  · exact ⟨fun hge => absurd hc (by omega), fun _ _ => hend, fun _ hp' => by simp [hp] at hp'⟩
  · exact ⟨fun hge => absurd hc (by omega), fun _ hp' => by simp [hp] at hp', fun _ _ => hend⟩

/-- The step that ends a phase, for both phases at once. -/
theorem step_ends_phase {s t : State} (h : step s = .next t) (hc : s.cycles < 2) :
    t.phase ≠ s.phase ∧
      t.signal = (if s.phase = .activeDisplay then .activeDisplayEnded else .interruptPreliminaryEnded) ∧
      t.cycles = (if s.phase = .activeDisplay then (s.config.budgetPrelim : Int) else (s.config.budgetActive : Int)) := by
  obtain ⟨-, hactive, hprelim⟩ := everyStepTakesTwoCycles s t h
  cases hp : s.phase with
  | activeDisplay =>
    obtain ⟨hcycles, hphase, hsignal⟩ := hactive hc hp
    simp [hcycles, hphase, hsignal]
  | interruptPreliminary =>
    obtain ⟨hcycles, hphase, hsignal⟩ := hprelim hc hp
    simp [hcycles, hphase, hsignal]

theorem runSteps_zero (s : State) : runSteps 0 s = .next s := rfl

/-- A run of any machine goes on from the state its first step answers. -/
theorem core_run_succ (M : Host.Core) {s t : M.State} (h : M.step s = .next t) (k : Nat) :
    M.run (k + 1) s = M.run k t := by
  simp only [Host.Core.run, h]

theorem runSteps_succ {s t : State} (h : step s = .next t) (k : Nat) : runSteps (k + 1) s = runSteps k t :=
  core_run_succ core h k

/-- A run can be cut in two. -/
theorem runSteps_add {k : Nat} {s t : State} (h : runSteps k s = .next t) (l : Nat) :
    runSteps (k + l) s = runSteps l t := by
  induction k generalizing s with
  | zero =>
    obtain rfl : s = t := Host.Outcome.next.inj h
    rw [Nat.zero_add]
  | succ k ih =>
    obtain ⟨u, hu⟩ := everyStepHasANextState s
    rw [runSteps_succ hu] at h
    rw [Nat.add_right_comm, runSteps_succ hu, ih h]

/-- One more step at the end of a run. -/
theorem runSteps_succ_last {k : Nat} {s t : State} (h : runSteps k s = .next t) : runSteps (k + 1) s = step t := by
  obtain ⟨u, hu⟩ := everyStepHasANextState t
  rw [runSteps_add h, runSteps_succ hu, runSteps_zero, hu]

/-- As long as `Cycles` lasts, a run stays in its phase, charges 2 cycles a step and signals nothing. -/
theorem runSteps_within_phase (s : State) (k : Nat) (hk : 2 * (k : Int) ≤ s.cycles) :
    ∃ t, runSteps k s = .next t ∧ t.cycles = s.cycles - 2 * k ∧ t.phase = s.phase ∧ t.config = s.config ∧
      (1 ≤ k → t.signal = .none) := by
  induction k with
  | zero => exact ⟨s, runSteps_zero s, by simp, rfl, rfl, by simp⟩
  | succ k ih =>
    obtain ⟨t, hrun, hcycles, hphase, hconfig, -⟩ := ih (by omega)
    obtain ⟨u, hu⟩ := everyStepHasANextState t
    obtain ⟨hcyclesU, hphaseU, hsignalU⟩ := (everyStepTakesTwoCycles t u hu).1 (by omega)
    exact ⟨u, (runSteps_succ_last hrun).trans hu, by omega, hphaseU.trans hphase, (step_config hu).trans hconfig,
      fun _ => hsignalU⟩

/-- Settles O41: after `floor(c / 2)` steps in the phase, 0 or 1 of its cycles are left and the next step ends it. -/
theorem aPhaseLastsHalfItsCyclesPlusOne : Obligations.APhaseLastsHalfItsCyclesPlusOne := by
  intro s c hc
  refine ⟨fun k hpos hlt => ?_, ?_⟩
  · rw [phaseSteps] at hlt
    obtain ⟨t, hrun, hcycles, hphase, -, hsignal⟩ := runSteps_within_phase s k (by omega)
    exact ⟨t, hrun, hsignal hpos, hphase, hc ▸ hcycles⟩
  · obtain ⟨t, hrun, hcycles, hphase, hconfig, -⟩ := runSteps_within_phase s (c / 2) (by omega)
    obtain ⟨u, hu⟩ := everyStepHasANextState t
    have hend := step_ends_phase hu (by omega)
    rw [hphase, hconfig] at hend
    exact ⟨u, (runSteps_succ_last hrun).trans hu, hend⟩

end Sys2Proof.Machine

/-! PROOFS. Idle, load via a register, increment and decrement (spec/41_idle_load_incdec.md): what a step of one register
changes, and the rows of LDN, INC and DEC as the operations they run. -/

namespace Sys2Proof.Machine

/-! ### Frames of one write -/

/-- Writing one register changes nothing else. -/
theorem State.setReg_sameBut (s : State) (n : RegNo) (v : Word) : SameBut [n] s (s.setReg n v) := by
  have hregs : SameRegsBut [n] s (s.setReg n v) := by
    intro m hm
    rw [State.setReg_reg, if_neg (List.ne_of_not_mem_cons hm)]
  simp [SameBut, hregs, SameMem, SameControl, SameOutside, SameFrame, SameLatches, SameIO]

theorem State.setReg_sameAcc (s : State) (n : RegNo) (v : Word) : SameAcc s (s.setReg n v) := ⟨rfl, rfl⟩

/-- Writing `D` changes nothing but `D`. -/
theorem State.setD_sameBut (s : State) (v : Byte) : SameBut [] s (s.setD v) := by
  simp [SameBut, SameRegsBut, SameMem, SameControl, SameOutside, SameFrame, SameLatches, SameIO]

/-! ### Stepping a register (R90) -/

/-- A sum of words is the sum of numbers modulo 65536. -/
theorem State.setReg_add_stepped (s : State) (n : RegNo) (k : Word) :
    Stepped n k.toNat s (s.setReg n (s.reg n + k)) := by
  rw [Stepped, State.setReg_reg, if_pos rfl, BitVec.toNat_add]

theorem incReg_stepped (n : RegNo) (s : State) : Stepped n 1 s (incReg n s) := s.setReg_add_stepped n 1#16

/-- Subtracting 1 is adding 65535. -/
theorem decReg_stepped (n : RegNo) (s : State) : Stepped n 65535 s (decReg n s) := by
  have hsub : s.reg n - 1#16 = s.reg n + 65535#16 := BitVec.sub_eq_add_neg ..
  rw [decReg, hsub]
  exact s.setReg_add_stepped n 65535#16

/-! ### Idle (R100, D11) -/

/-- IDL is DEC of the register that fetches. -/
theorem idle_eq_decReg (s : State) : idle s = decReg s.p s := rfl

/-- Of two writes to `R[P]` the last one counts. -/
theorem State.setPc_setPc (s : State) (v w : Word) : (s.setPc v).setPc w = s.setPc w := by
  simp [State.setPc, State.setReg]

/-- IDL undoes the advance of its own fetch. -/
theorem idle_fetched (s : State) (c : Int) : idle ((s.setPc (s.pc + 1#16)).setCycles c) = s.setCycles c := by
  have hback : (s.setPc (s.pc + 1#16)).setPc (s.pc + 1#16 - 1#16) = s := by
    rw [State.setPc_setPc, BitVec.add_sub_cancel, setPc_self]
  calc idle ((s.setPc (s.pc + 1#16)).setCycles c)
      = ((s.setPc (s.pc + 1#16)).setPc ((s.setPc (s.pc + 1#16)).pc - 1#16)).setCycles c := rfl
    _ = s.setCycles c := by rw [State.setPc_pc, hback]

theorem State.fetchInstr_idl {s : State} (h : s.memRead s.pc = 0#8) : s.fetchInstr.1 = .idl := by
  simp only [State.fetchInstr, State.fetch8, h]
  rfl

/-- With a cycle to spare the boundary check only clears the signal. -/
theorem State.boundary_of_nonneg {s : State} (h : 0 ≤ s.cycles) : s.boundary = s.setSignal .none := by
  rw [State.boundary, if_neg (Int.not_lt.mpr h)]

/-- A whole step of IDL that does not end the phase: 2 cycles charged, no signal, and the same state otherwise. -/
theorem step_idl {s : State} (h : s.memRead s.pc = 0#8) (hc : 2 ≤ s.cycles) :
    step s = .next ((s.setCycles (s.cycles - 2)).setSignal .none) := by
  have hspare : 0 ≤ (s.setCycles (s.cycles - 2)).cycles := Int.sub_nonneg_of_le hc
  calc step s = .next (idle ((s.setPc (s.pc + 1#16)).setCycles (s.cycles - 2))).boundary := by
        rw [step_eq, State.fetchInstr_idl h]; rfl
    _ = .next ((s.setCycles (s.cycles - 2)).setSignal .none) := by
        rw [idle_fetched, State.boundary_of_nonneg hspare]

/-- Settles O1: the instruction is DEC of `R[P]`; in a whole step it meets the advance of its own fetch. -/
theorem idlTakesBackTheFetch : Obligations.IdlTakesBackTheFetch := by
  refine ⟨fun s => ?_, fun s h hc => ?_⟩
  · refine ⟨idle s, rfl, ?_⟩
    rw [idle_eq_decReg]
    exact ⟨decReg_stepped s.p s, s.setReg_sameAcc _ _, s.setReg_sameBut _ _⟩
  · exact ⟨_, step_idl h hc, by simp [SameRegsBut, SameMem, SameAcc, SameControl, SameLatches, SameIO]⟩

/-! ### LDN, INC and DEC, row by row (R101 to R103) -/

theorem exec_ldnRows : ∀ q ∈ Instr.ldnRows, exec q.1 = fun s => .next (loadVia q.2 s) := List.map_inj_left.1 rfl

theorem exec_incRows : ∀ q ∈ Instr.incRows, exec q.1 = fun s => .next (incReg q.2 s) := List.map_inj_left.1 rfl

theorem exec_decRows : ∀ q ∈ Instr.decRows, exec q.1 = fun s => .next (decReg q.2 s) := List.map_inj_left.1 rfl

theorem ldnRows_codedBy : CodedBy 0x0#4 Instr.ldnRows := by unfold CodedBy; decide

theorem incRows_codedBy : CodedBy 0x1#4 Instr.incRows := by unfold CodedBy; decide

theorem decRows_codedBy : CodedBy 0x2#4 Instr.decRows := by unfold CodedBy; decide

theorem incRows_everyReg : EveryReg Instr.incRows := by unfold EveryReg; decide

theorem decRows_everyReg : EveryReg Instr.decRows := by unfold EveryReg; decide

/-- The opcode LDN would have for register 0 is IDL's. -/
theorem ne_zero_iff_exists_ldnRow : ∀ n : RegNo, n ≠ 0#4 ↔ ∃ q ∈ Instr.ldnRows, q.2 = n := by decide

/-- Settles O2: every row runs `loadVia`, which writes `D` alone. -/
theorem ldnLoadsD : Obligations.LdnLoadsD := by
  refine ⟨ldnRows_codedBy, ne_zero_iff_exists_ldnRow, fun q hq s => ?_⟩
  exact ⟨loadVia q.2 s, congrFun (exec_ldnRows q hq) s, rfl, rfl, s.setD_sameBut _⟩

/-- Settles O3: every row runs `incReg` or `decReg`, which step the one register they write. -/
theorem incAndDecStepTheRegister : Obligations.IncAndDecStepTheRegister := by
  refine ⟨incRows_codedBy, incRows_everyReg, decRows_codedBy, decRows_everyReg, fun q hq s => ?inc, fun q hq s => ?dec⟩
  case inc =>
    exact ⟨incReg q.2 s, congrFun (exec_incRows q hq) s, incReg_stepped q.2 s, s.setReg_sameAcc _ _,
      s.setReg_sameBut _ _⟩
  case dec =>
    exact ⟨decReg q.2 s, congrFun (exec_decRows q hq) s, decReg_stepped q.2 s, s.setReg_sameAcc _ _,
      s.setReg_sameBut _ _⟩

end Sys2Proof.Machine

/-! PROOFS. The sixteen short branches (spec/42_short_branch.md): each is a short branch on a condition on the state,
those on flags 3 and 4 after one query of a keypad. -/

namespace Sys2Proof.Machine

/-! ### What a short branch changes (R120, D9) -/

/-- Writing `R[P]` is writing one register. -/
theorem State.setPc_sameBut (s : State) (v : Word) : SameBut [s.p] s (s.setPc v) := s.setReg_sameBut s.p v

theorem shortBranch_reg_p (c : Bool) (b : Byte) (s : State) :
    ((shortBranch c b s).reg s.p).toNat =
      if c then ((s.pc.toNat + 1) % 65536) / 256 * 256 + b.toNat else (s.pc.toNat + 1) % 65536 := by
  rw [shortBranch_eq, State.setPc_reg, if_pos rfl, apply_ite BitVec.toNat, withLo_toNat, BitVec.toNat_add]
  rfl

theorem shortBranch_sameAcc (c : Bool) (b : Byte) (s : State) : SameAcc s (shortBranch c b s) := by
  rw [shortBranch_eq]
  exact s.setReg_sameAcc s.p _

theorem shortBranch_sameBut (c : Bool) (b : Byte) (s : State) : SameBut [s.p] s (shortBranch c b s) := by
  rw [shortBranch_eq]
  exact s.setPc_sameBut _

/-! ### The external flags as conditions (R335, R336) -/

theorem flagBranch_one (sense : Bool) (b : Byte) (s : State) : flagBranch 1 sense b s = shortBranch sense b s :=
  congrArg (shortBranch · b s) (Bool.true_beq sense)

theorem flagBranch_two (sense : Bool) (b : Byte) (s : State) :
    flagBranch 2 sense b s = shortBranch (s.config.ef2Level == sense) b s := rfl

/-- The query does not see the operand fetch, so it can be made first. -/
theorem flagBranch_three (sense : Bool) (b : Byte) (s : State) :
    flagBranch 3 sense b s = shortBranch (s.keypadAnswer .pad1 == sense) b (s.queryKeypad .pad1).2 := rfl

theorem flagBranch_four (sense : Bool) (b : Byte) (s : State) :
    flagBranch 4 sense b s = shortBranch (s.keypadAnswer .pad2 == sense) b (s.queryKeypad .pad2).2 := rfl

/-! ### The branches row by row (R121 to R136) -/

/-- The branches on `Q`, `D` and `DF`, each with its condition. -/
def registerBranches : List ((Byte → Instr) × (State → Bool)) :=
  [(.br, fun _ => true), (.bq, fun s => s.q), (.bz, fun s => decide (s.d.toNat = 0)), (.bdf, fun s => s.df),
   (.skp, fun _ => false), (.bnq, fun s => !s.q), (.bnz, fun s => decide (s.d.toNat ≠ 0)), (.bnf, fun s => !s.df)]

/-- The branches on flags 1 and 2, each with its condition. -/
def levelBranches : List ((Byte → Instr) × (State → Bool)) :=
  [(.b1, fun _ => true), (.bn1, fun _ => false), (.b2, fun s => s.config.ef2Level), (.bn2, fun s => !s.config.ef2Level)]

/-- The branches on flags 3 and 4, each with its pad and the level it tests. -/
def keypadBranches : List ((Byte → Instr) × Keypad × Bool) :=
  [(.b3, .pad1, true), (.bn3, .pad1, false), (.b4, .pad2, true), (.bn4, .pad2, false)]

theorem State.dIsZero_eq (s : State) : s.dIsZero = decide (s.d.toNat = 0) := by
  rw [State.dIsZero, Bool.eq_iff_iff, beq_iff_eq, decide_eq_true_iff, BitVec.toNat_eq]
  rfl

theorem exec_registerBranches :
    ∀ q ∈ registerBranches, ∀ (b : Byte) (s : State), exec (q.1 b) s = .next (shortBranch (q.2 s) b s) := by
  have hbz (b : Byte) (s : State) : exec (.bz b) s = .next (shortBranch (decide (s.d.toNat = 0)) b s) := by
    rw [← State.dIsZero_eq]; rfl
  have hbnz (b : Byte) (s : State) : exec (.bnz b) s = .next (shortBranch (decide (s.d.toNat ≠ 0)) b s) := by
    rw [decide_not, ← State.dIsZero_eq]; rfl
  simp only [registerBranches, List.forall_mem_cons]
  exact ⟨fun _ _ => rfl, fun _ _ => rfl, hbz, fun _ _ => rfl, fun _ _ => rfl, fun _ _ => rfl, hbnz, fun _ _ => rfl,
    List.forall_mem_nil _⟩

theorem exec_levelBranches :
    ∀ q ∈ levelBranches, ∀ (b : Byte) (s : State), exec (q.1 b) s = .next (shortBranch (q.2 s) b s) := by
  have hb2 (b : Byte) (s : State) : exec (.b2 b) s = .next (shortBranch s.config.ef2Level b s) := by
    rw [← beq_true s.config.ef2Level, ← flagBranch_two]; rfl
  have hbn2 (b : Byte) (s : State) : exec (.bn2 b) s = .next (shortBranch (!s.config.ef2Level) b s) := by
    rw [← beq_false s.config.ef2Level, ← flagBranch_two]; rfl
  simp only [levelBranches, List.forall_mem_cons]
  exact ⟨fun b s => congrArg Host.Outcome.next (flagBranch_one true b s),
    fun b s => congrArg Host.Outcome.next (flagBranch_one false b s), hb2, hbn2, List.forall_mem_nil _⟩

theorem exec_keypadBranches :
    ∀ q ∈ keypadBranches, ∀ (b : Byte) (s : State),
      exec (q.1 b) s = .next (shortBranch (s.keypadAnswer q.2.1 == q.2.2) b (s.queryKeypad q.2.1).2) := by
  simp only [keypadBranches, List.forall_mem_cons]
  exact ⟨fun b s => congrArg Host.Outcome.next (flagBranch_three true b s),
    fun b s => congrArg Host.Outcome.next (flagBranch_three false b s),
    fun b s => congrArg Host.Outcome.next (flagBranch_four true b s),
    fun b s => congrArg Host.Outcome.next (flagBranch_four false b s),
    List.forall_mem_nil _⟩

/-! ### The obligations -/

/-- Settles O4: every row is a short branch on its condition. -/
theorem shortBranchesOnRegisters : Obligations.ShortBranchesOnRegisters := by
  intro q hq b s
  exact ⟨_, exec_registerBranches q hq b s, shortBranch_reg_p .., shortBranch_sameAcc .., shortBranch_sameBut ..⟩

/-- Settles O5: a query of flag 1 or 2 only reads the state, so these too are short branches on a condition. -/
theorem branchesOnFlagsOneAndTwo : Obligations.BranchesOnFlagsOneAndTwo := by
  intro q hq b s
  exact ⟨_, exec_levelBranches q hq b s, shortBranch_reg_p .., shortBranch_sameAcc .., shortBranch_sameBut ..⟩

/-- Settles O6: the query writes only the interface, the short branch after it only `R[P]`. -/
theorem branchesOnTheKeypads : Obligations.BranchesOnTheKeypads := by
  rintro ⟨i, pad, sense⟩ hq b s
  have hpc := shortBranch_reg_p (s.keypadAnswer pad == sense) b (s.queryKeypad pad).2
  have hacc := shortBranch_sameAcc (s.keypadAnswer pad == sense) b (s.queryKeypad pad).2
  obtain ⟨hregs, hmem, hcontrol, hframe, hlatches, htrace, hanswers, hqueries⟩ :=
    shortBranch_sameBut (s.keypadAnswer pad == sense) b (s.queryKeypad pad).2
  rw [State.queryKeypad_p, State.queryKeypad_pc] at hpc
  simp only [beq_iff_eq] at hpc
  refine ⟨_, exec_keypadBranches _ hq b s, fun answer rest h => ?given, fun h => ?free, htrace, hqueries, hregs, hmem,
    hacc, hcontrol, hframe, hlatches⟩
  case given =>
    refine ⟨hanswers.trans (congrArg List.tail h), ?_⟩
    rw [← State.keypadAnswer_cons h pad]
    exact hpc
  case free =>
    refine ⟨hanswers.trans (congrArg List.tail h), ?_⟩
    rw [← State.keypadAnswer_nil h pad]
    exact hpc

end Sys2Proof.Machine

/-! PROOFS. Load-advance, store and register-indexed I/O (spec/43_load_advance_store_io.md): what one `MemWrite` changes,
and each row as a store or an access to the bridge with a step of one register. -/

namespace Sys2Proof.Machine

/-! ### Frames of a store, and of a register stepped after one -/

/-- A store changes no register (R43). -/
theorem State.memWrite_sameRegs (s : State) (a : Word) (v : Byte) : SameRegsBut [] s (s.memWrite a v) :=
  fun m _ => s.memWrite_reg a v m

theorem State.memWrite_sameAcc (s : State) (a : Word) (v : Byte) : SameAcc s (s.memWrite a v) :=
  ⟨s.memWrite_d a v, s.memWrite_df a v⟩

theorem State.memWrite_sameControl (s : State) (a : Word) (v : Byte) : SameControl s (s.memWrite a v) := by
  simp [SameControl]

theorem State.portOut_sameRegs (s : State) (p : Port) (v : Byte) : SameRegsBut [] s (s.portOut p v) :=
  fun m _ => s.portOut_reg p v m

/-- What came before a register write does not show in the frame if it changed no register. -/
theorem SameRegsBut.trans_nil {s t u : State} {ns : List RegNo} (h : SameRegsBut [] s t) (h' : SameRegsBut ns t u) :
    SameRegsBut ns s u :=
  fun m hm => (h' m hm).trans (h m List.not_mem_nil)

/-- A step of a register counts from the state before, if what came between changed no register. -/
theorem SameRegsBut.stepped {s t u : State} {n : RegNo} {k : Nat} (h : SameRegsBut [] s t) (h' : Stepped n k t u) :
    Stepped n k s u := by
  rw [Stepped, ← h n List.not_mem_nil]
  exact h'

theorem incReg_sameBut (n : RegNo) (s : State) : SameBut [n] s (incReg n s) := s.setReg_sameBut n _

theorem decReg_sameBut (n : RegNo) (s : State) : SameBut [n] s (decReg n s) := s.setReg_sameBut n _

/-- Writing `D` and then one register changes nothing else. -/
theorem State.setD_setReg_sameBut (s : State) (v : Byte) (n : RegNo) (w : Word) :
    SameBut [n] s ((s.setD v).setReg n w) :=
  (s.setD v).setReg_sameBut n w

/-! ### The operations by the register they use (R150 to R155) -/

/-- LDXA is the load-advance with `n` replaced by `X` (R152). -/
theorem loadXAdvance_eq (s : State) : loadXAdvance s = loadAdvance s.x s := rfl

/-- IRX is INC of `R[X]`. -/
theorem incX_eq (s : State) : incX s = incReg s.x s := rfl

theorem loadAdvance_stepped (n : RegNo) (s : State) : Stepped n 1 s (loadAdvance n s) :=
  (s.setD (s.memRead (s.reg n))).setReg_add_stepped n 1#16

/-- STXD is STR and then DEC, both of `R[X]`: the store changes neither `X` nor `R[X]`. -/
theorem storeXDecrement_eq (s : State) : storeXDecrement s = decReg s.x (storeVia s.x s) := by
  simp [storeXDecrement, decReg, storeVia, State.setDataPtr, State.dataPtr]

/-- OUT p is the output and then INC of `R[X]`: the bridge changes neither `X` nor `R[X]`. -/
theorem output_eq (p : Port) (s : State) : output p s = incReg s.x (s.portOut p (s.memRead (s.reg s.x))) := by
  simp [output, incReg, State.setDataPtr, State.dataByte, State.dataPtr]

/-- INP p stores and loads the 0x00 that every port gives (R334). -/
theorem input_eq (p : Port) (s : State) :
    input p s = ((s.portIn p).2.memWrite (s.reg s.x) 0x00#8).setD 0x00#8 := by
  rw [input, State.portIn_value, State.dataPtr]

/-! ### The rows (R150, R151, R155, R157) -/

theorem exec_ldaRows : ∀ q ∈ Instr.ldaRows, exec q.1 = fun s => .next (loadAdvance q.2 s) := List.map_inj_left.1 rfl

theorem exec_strRows : ∀ q ∈ Instr.strRows, exec q.1 = fun s => .next (storeVia q.2 s) := List.map_inj_left.1 rfl

theorem exec_outRows : ∀ q ∈ Instr.outRows, exec q.1 = fun s => .next (output q.2 s) := List.map_inj_left.1 rfl

theorem exec_inpRows : ∀ q ∈ Instr.inpRows, exec q.1 = fun s => .next (input q.2 s) := List.map_inj_left.1 rfl

theorem ldaRows_codedBy : CodedBy 0x4#4 Instr.ldaRows := by unfold CodedBy; decide

theorem strRows_codedBy : CodedBy 0x5#4 Instr.strRows := by unfold CodedBy; decide

theorem ldaRows_everyReg : EveryReg Instr.ldaRows := by unfold EveryReg; decide

theorem strRows_everyReg : EveryReg Instr.strRows := by unfold EveryReg; decide

/-! ### Loads and stores -/

/-- Settles O7: every row runs `loadAdvance`, which writes `D` and the one register it steps. -/
theorem ldaLoadsAndAdvances : Obligations.LdaLoadsAndAdvances := by
  refine ⟨ldaRows_codedBy, ldaRows_everyReg, fun q hq s => ?_⟩
  exact ⟨loadAdvance q.2 s, congrFun (exec_ldaRows q hq) s, rfl, rfl, loadAdvance_stepped q.2 s,
    s.setD_setReg_sameBut ..⟩

/-- Settles O8: every row runs `storeVia`, which is one `MemWrite`. -/
theorem strStoresD : Obligations.StrStoresD := by
  refine ⟨strRows_codedBy, strRows_everyReg, fun q hq s hs => ?_⟩
  exact ⟨storeVia q.2 s, congrFun (exec_strRows q hq) s, State.memWrite_storedAt hs _ _, s.memWrite_sameRegs _ _,
    s.memWrite_sameAcc _ _, s.memWrite_sameControl _ _, s.memWrite_sameOutside _ _⟩

/-- Settles O9: LDXA is the load-advance and IRX the increment, of `R[X]`. -/
theorem ldxaAndIrxAdvanceTheDataPointer : Obligations.LdxaAndIrxAdvanceTheDataPointer := by
  refine ⟨rfl, rfl, fun s => ?ldxa, fun s => ?irx⟩
  case ldxa =>
    exact ⟨loadAdvance s.x s, congrArg Host.Outcome.next (loadXAdvance_eq s), rfl, rfl, loadAdvance_stepped s.x s,
      s.setD_setReg_sameBut ..⟩
  case irx =>
    exact ⟨incReg s.x s, congrArg Host.Outcome.next (incX_eq s), incReg_stepped s.x s, s.setReg_sameAcc _ _,
      incReg_sameBut s.x s⟩

/-- Settles O10: the guard decides on memory alone, and the decrement of `R[X]` comes after it either way. -/
theorem stxdStoresAndDecrements : Obligations.StxdStoresAndDecrements := by
  refine ⟨rfl, fun s hs => ⟨decReg s.x (storeVia s.x s), congrArg Host.Outcome.next (storeXDecrement_eq s), ?_⟩⟩
  have hstore : SameRegsBut [] s (storeVia s.x s) := s.memWrite_sameRegs _ _
  obtain ⟨hdec, -⟩ := decReg_sameBut s.x (storeVia s.x s)
  exact ⟨State.memWrite_storedAt hs _ _, hstore.stepped (decReg_stepped _ _), hstore.trans_nil hdec,
    s.memWrite_sameAcc _ _, s.memWrite_sameControl _ _, s.memWrite_sameOutside _ _⟩

/-! ### Output and input -/

/-- `KeySel` after an output, on numbers: port 2 takes the low nibble (R332, D27). -/
theorem State.portOut_keySel_toNat (s : State) (p : Port) (v : Byte) :
    (s.portOut p v).keySel.toNat = if p = 2#3 then v.toNat % 16 else s.keySel.toNat := by
  rw [State.portOut_keySel, apply_ite BitVec.toNat, BitVec.extractLsb'_toNat]
  rfl

/-- Settles O11: the bridge emits the event and sets the latch of its port, the increment writes `R[X]` alone. -/
theorem outEmitsAndAdvances : Obligations.OutEmitsAndAdvances := by
  rintro ⟨i, p⟩ hq s
  refine ⟨output p s, congrFun (exec_outRows _ hq) s, ?_⟩
  rw [output_eq]
  have hout := s.portOut_sameRegs p (s.memRead (s.reg s.x))
  obtain ⟨hinc, -⟩ := incReg_sameBut s.x (s.portOut p (s.memRead (s.reg s.x)))
  refine ⟨s.portOut_trace .., hout.stepped (incReg_stepped _ _), s.portOut_displayEnabled .., s.portOut_keySel_toNat ..,
    hout.trans_nil hinc, s.portOut_memRead p _, ?_⟩
  simp [incReg, SameAcc, SameControl, SameFrame]

/-- Settles O13: the port changes neither memory nor `R[X]`, so the store is a store from the state before. -/
theorem inpStoresZeroAndLoadsD : Obligations.InpStoresZeroAndLoadsD := by
  rintro ⟨i, p⟩ hq s hs
  refine ⟨input p s, congrFun (exec_inpRows _ hq) s, ?_⟩
  rw [input_eq]
  refine ⟨State.memWrite_storedAt_of_mem hs (s.portIn_mem p) _ _, rfl, ?_⟩
  simp [State.portIn_displayEnabled, SameRegsBut, SameControl, SameFrame]

/-! ### Instructions without an effect (R156, R286) -/

/-- The two opcodes that do nothing, each with its byte. -/
def noEffectRows : List (Instr × Byte) := [(.x68, 0x68#8), (.nop, 0xC4#8)]

theorem exec_noEffectRows : ∀ q ∈ noEffectRows, exec q.1 = fun s => .next s := List.map_inj_left.1 rfl

theorem decodeOp_noEffectRows : ∀ q ∈ noEffectRows, decodeOp q.2 = fmt0 q.1 := List.map_inj_left.1 rfl

theorem State.fetchInstr_noEffectRow {q : Instr × Byte} (hq : q ∈ noEffectRows) {s : State}
    (h : s.memRead s.pc = q.2) : s.fetchInstr.1 = q.1 := by
  rw [State.fetchInstr, State.fetch8, h, decodeOp_noEffectRows q hq, fmt0]

/-- A whole step that does not end the phase, of an instruction without an effect, is its fetch and its charge. -/
theorem step_noEffectRow {q : Instr × Byte} (hq : q ∈ noEffectRows) {s : State} (h : s.memRead s.pc = q.2)
    (hc : 2 ≤ s.cycles) :
    step s = .next (((s.setPc (s.pc + 1#16)).setCycles (s.cycles - 2)).setSignal .none) := by
  have hspare : 0 ≤ ((s.setPc (s.pc + 1#16)).setCycles (s.cycles - 2)).cycles := Int.sub_nonneg_of_le hc
  rw [step_eq, State.fetchInstr_noEffectRow hq h, exec_noEffectRows q hq, finishStep, State.boundary_of_nonneg hspare]

/-- Settles O12: neither instruction has an effect, so its step is the fetch and the charge. -/
theorem noEffectInstructionsOnlyAdvance : Obligations.NoEffectInstructionsOnlyAdvance := by
  intro q hq
  refine ⟨fun s => ⟨s, congrFun (exec_noEffectRows q hq) s, ?_⟩, fun s h hc => ⟨_, step_noEffectRow hq h hc, ?_⟩⟩
  · simp [SameAcc, SameBut, SameRegsBut, SameMem, SameControl, SameOutside, SameFrame, SameLatches, SameIO]
  · obtain ⟨hregs, hmem, hcontrol, -, hlatches, hio⟩ := s.setPc_sameBut (s.pc + 1#16)
    exact ⟨s.setReg_add_stepped s.p 1#16, rfl, rfl, hregs, hmem, ⟨rfl, rfl⟩, hcontrol, hlatches, hio⟩

end Sys2Proof.Machine

/-! PROOFS. Return, disable, save, mark and the Q latch (spec/44_return_mark_q.md): what RET, DIS and MARK change, and
the two sequences that save `(X, P)` in the cell `R[2]` addresses and take it back from there. -/

namespace Sys2Proof.Machine

/-! ### The `(X, P)` byte as numbers (R190) -/

theorem unpackX_toNat (v : Byte) : (unpackX v).toNat = v.toNat / 16 := by
  have hv : v.toNat / 16 < 16 := Nat.div_lt_of_lt_mul v.isLt
  rw [unpackX, BitVec.extractLsb'_toNat, Nat.shiftRight_eq_div_pow, Nat.mod_eq_of_lt hv]

theorem unpackP_toNat (v : Byte) : (unpackP v).toNat = v.toNat % 16 := by
  rw [unpackP, BitVec.extractLsb'_toNat, Nat.shiftRight_zero]

/-! ### Frames: a store into RAM, and a register that came back -/

theorem StoredAt.memRead_of_isRam {a : Word} {v : Byte} {s t : State} (h : StoredAt a v s t)
    (ha : isRam (a12 a.toNat) = true) : t.memRead a = v :=
  h.1.trans (if_pos ha)

theorem SameRegsBut.trans {s t u : State} {ns : List RegNo} (h : SameRegsBut ns s t) (h' : SameRegsBut ns t u) :
    SameRegsBut ns s u :=
  fun m hm => (h' m hm).trans (h m hm)

/-- What a read of every register says of the frame. -/
theorem SameRegsBut.of_reg_ite {s t : State} {n : RegNo} {v : Word}
    (h : ∀ m, t.reg m = if m = n then v else s.reg m) : SameRegsBut [n] s t :=
  fun m hm => (h m).trans (if_neg (List.ne_of_not_mem_cons hm))

/-- A register that holds again what it held drops out of the frame. -/
theorem SameRegsBut.of_reg_eq {s t : State} {n : RegNo} (h : SameRegsBut [n] s t) (hn : t.reg n = s.reg n) :
    SameRegsBut [] s t := by
  intro m _
  by_cases hm : m = n
  · rw [hm, hn]
  · exact h m (mt List.mem_singleton.1 hm)

/-! ### Return (R190, R191) -/

/-- The two returns, each with the `IE` it leaves. -/
def returnRows : List (Instr × Bool) := [(.ret, true), (.dis, false)]

theorem exec_returnRows : ∀ q ∈ returnRows, exec q.1 = fun s => .next (s.returnFrom q.2) := List.map_inj_left.1 rfl

theorem State.returnFrom_stepped (s : State) (b : Bool) : Stepped 2#4 1 s (s.returnFrom b) :=
  s.setReg_add_stepped 2#4 1#16

/-- Of the registers a return writes `R[2]` alone. -/
theorem State.returnFrom_sameRegs (s : State) (b : Bool) : SameRegsBut [2#4] s (s.returnFrom b) :=
  .of_reg_ite (s.returnFrom_reg b)

theorem State.returnFrom_sameAcc (s : State) (b : Bool) : SameAcc s (s.returnFrom b) := ⟨rfl, rfl⟩

theorem State.returnFrom_sameOutside (s : State) (b : Bool) : SameOutside s (s.returnFrom b) := by
  simp [SameOutside, SameFrame, SameLatches, SameIO]

/-- A return takes back the pair that the byte `R[2]` addresses was packed from. -/
theorem State.returnFrom_of_packed {s : State} {x p : RegNo} (h : s.memRead (s.reg 2#4) = packXP x p) (b : Bool) :
    (s.returnFrom b).x = x ∧ (s.returnFrom b).p = p := by
  rw [State.returnFrom_x, State.returnFrom_p, h]
  exact ⟨unpackX_packXP x p, unpackP_packXP x p⟩

/-- Settles O14: both rows run `returnFrom`, which unpacks the byte `R[2]` addresses and steps `R[2]`. -/
theorem returnsRestoreXAndP : Obligations.ReturnsRestoreXAndP := by
  intro q hq s
  exact ⟨s.returnFrom q.2, congrFun (exec_returnRows q hq) s, unpackX_toNat _, unpackP_toNat _, rfl,
    s.returnFrom_stepped _, s.returnFrom_sameRegs _, s.returnFrom_memRead _, s.returnFrom_sameAcc _, rfl, rfl,
    s.returnFrom_sameOutside _⟩

/-! ### Save (R192) -/

theorem saveT_storedAt {s : State} (hs : s.mem.wf) : StoredAt (s.reg s.x) s.t s (saveT s) :=
  State.memWrite_storedAt hs s.dataPtr s.t

/-- Settles O15: SAV is one `MemWrite`. -/
theorem savStoresT : Obligations.SavStoresT := by
  refine ⟨rfl, fun s hs => ⟨saveT s, rfl, saveT_storedAt hs, ?_⟩⟩
  exact ⟨s.memWrite_sameRegs _ _, s.memWrite_sameAcc _ _, s.memWrite_sameControl _ _, s.memWrite_sameOutside _ _⟩

/-! ### Mark (R193) -/

/-- MARK is the push and then DEC 2: the push does not change `R[2]`. -/
theorem mark_eq_decReg (s : State) :
    mark s = decReg 2#4 (((s.setT (packXP s.x s.p)).memWrite (s.reg 2#4) (packXP s.x s.p)).setX s.p) := by
  simp [mark, decReg]

@[simp] theorem mark_t (s : State) : (mark s).t = packXP s.x s.p := by simp [mark]

theorem mark_stepped (s : State) : Stepped 2#4 65535 s (mark s) := by
  have hpush : SameRegsBut [] s (((s.setT (packXP s.x s.p)).memWrite (s.reg 2#4) (packXP s.x s.p)).setX s.p) :=
    (s.setT _).memWrite_sameRegs _ _
  rw [mark_eq_decReg]
  exact hpush.stepped (decReg_stepped 2#4 _)

theorem mark_reg (s : State) (m : RegNo) : (mark s).reg m = if m = 2#4 then s.reg 2#4 - 1#16 else s.reg m := by
  simp [mark]

/-- Of the registers MARK writes `R[2]` alone. -/
theorem mark_sameRegs (s : State) : SameRegsBut [2#4] s (mark s) := .of_reg_ite (mark_reg s)

theorem mark_sameAcc (s : State) : SameAcc s (mark s) := (s.setT _).memWrite_sameAcc _ _

theorem mark_sameOutside (s : State) : SameOutside s (mark s) := (s.setT _).memWrite_sameOutside _ _

/-- The store goes to the address `R[2]` holds before the decrement. -/
theorem mark_storedAt {s : State} (hs : s.mem.wf) : StoredAt (s.reg 2#4) (packXP s.x s.p) s (mark s) :=
  State.memWrite_storedAt_of_mem (u := s.setT (packXP s.x s.p)) hs rfl _ _

/-- Settles O16: the guard decides on memory alone; `T`, `X` and `R[2]` are written either way. -/
theorem markPushesXAndP : Obligations.MarkPushesXAndP := by
  refine ⟨rfl, fun s hs => ⟨mark s, rfl, ?_⟩⟩
  rw [mark_t]
  obtain ⟨hq, hie, -, -, hp⟩ := (s.setT (packXP s.x s.p)).memWrite_sameControl (s.reg 2#4) (packXP s.x s.p)
  exact ⟨packXP_toNat .., mark_storedAt hs, rfl, mark_stepped s, mark_sameRegs s, mark_sameAcc s, hp, hq, hie,
    mark_sameOutside s⟩

/-! ### The Q latch (R194, R195, R331) -/

/-- REQ and SEQ, each with the level it latches. -/
def latchRows : List (Instr × Bool) := [(.req, false), (.seq, true)]

theorem exec_latchRows : ∀ q ∈ latchRows, exec q.1 = fun s => .next (s.latchQ q.2) := List.map_inj_left.1 rfl

/-- The byte the bridge is shown for a level of `Q`. -/
theorem ofNat_bool_toNat (b : Bool) : BitVec.ofNat 8 b.toNat = if b then 1#8 else 0#8 := by
  cases b <;> rfl

/-- Settles O17: both rows run `latchQ`, which writes `Q` and, if the level changes, the trace. -/
theorem reqAndSeqLatchQ : Obligations.ReqAndSeqLatchQ := by
  intro q hq s
  have htrace := s.latchQ_trace q.2
  rw [ofNat_bool_toNat] at htrace
  refine ⟨s.latchQ q.2, congrFun (exec_latchRows q hq) s, s.latchQ_q _, htrace, ?_⟩
  simp [SameRegsBut, SameMem, SameAcc, SameFrame, SameLatches]

/-! ### Saved and taken back (R193, R321) -/

/-- INC 2 takes back the decrement that ends MARK. -/
theorem incReg_mark_reg (s : State) : (incReg 2#4 (mark s)).reg 2#4 = s.reg 2#4 := by
  rw [incReg, State.setReg_reg, if_pos rfl, mark_reg, if_pos rfl, BitVec.sub_add_cancel]

/-- Settles O49: after INC 2, `R[2]` addresses the marked cell again, and the return finds there what MARK stored. -/
theorem markThenReturnRestoresXAndP : Obligations.MarkThenReturnRestoresXAndP := by
  intro q hq s hs hram
  have hstored := mark_storedAt hs
  have hpacked : (incReg 2#4 (mark s)).memRead ((incReg 2#4 (mark s)).reg 2#4) = packXP s.x s.p := by
    rw [incReg_mark_reg]
    exact hstored.memRead_of_isRam hram
  obtain ⟨hx, hp⟩ := State.returnFrom_of_packed hpacked q.2
  have hstep : Stepped 2#4 1 s ((incReg 2#4 (mark s)).returnFrom q.2) := by
    rw [Stepped, ← incReg_mark_reg s]
    exact State.returnFrom_stepped _ _
  obtain ⟨-, hother⟩ := hstored
  obtain ⟨hinc, -⟩ := incReg_sameBut 2#4 (mark s)
  exact ⟨mark s, incReg 2#4 (mark s), (incReg 2#4 (mark s)).returnFrom q.2, rfl, rfl,
    congrFun (exec_returnRows q hq) _, hx, hp, rfl, hstep,
    ((mark_sameRegs s).trans hinc).trans (State.returnFrom_sameRegs _ _), mark_sameAcc s, hother⟩

/-- What entry saves, and the data pointer it leaves (R316). -/
theorem State.interrupt_saves {s : State} (h : s.ie = true) :
    s.interrupt.t = packXP s.x s.p ∧ s.interrupt.x = 2#4 := by
  simp [State.interrupt, h]

/-- The state in which a handler that starts with DEC 2 and SAV executes its RET (R321). -/
def handlerSaved (s : State) : State := saveT (decReg 2#4 s.interrupt)

theorem handlerSaved_reg (s : State) (m : RegNo) :
    (handlerSaved s).reg m = if m = 2#4 then s.reg 2#4 - 1#16 else s.reg m := by
  simp [handlerSaved, saveT, decReg]

/-- Entry leaves `X` at 2, so SAV stores the interrupted program's pair in the cell DEC 2 made room for. -/
theorem handlerSaved_storedAt {s : State} (hs : s.mem.wf) (hie : s.ie = true) :
    StoredAt (s.reg 2#4 - 1#16) (packXP s.x s.p) s (handlerSaved s) := by
  obtain ⟨ht, hx⟩ := State.interrupt_saves hie
  have hptr : (decReg 2#4 s.interrupt).dataPtr = s.reg 2#4 - 1#16 := by simp [State.dataPtr, decReg, hx]
  have hsave : handlerSaved s = (decReg 2#4 s.interrupt).memWrite (s.reg 2#4 - 1#16) (packXP s.x s.p) := by
    rw [← hptr, ← ht]
    rfl
  rw [hsave]
  exact State.memWrite_storedAt_of_mem (u := decReg 2#4 s.interrupt) hs s.interrupt_mem _ _

theorem handlerSaved_frame (s : State) :
    (handlerSaved s).q = s.q ∧ SameAcc s (handlerSaved s) ∧ SameOutside s (handlerSaved s) := by
  simp [handlerSaved, saveT, decReg, SameAcc, SameOutside, SameFrame, SameLatches, SameIO]

/-- RET takes back the DEC 2, and of the registers nothing else was written. -/
theorem handlerSaved_returnFrom_sameRegs (s : State) : SameRegsBut [] s ((handlerSaved s).returnFrom true) := by
  have hsaved : SameRegsBut [2#4] s (handlerSaved s) := .of_reg_ite (handlerSaved_reg s)
  refine (hsaved.trans (State.returnFrom_sameRegs _ _)).of_reg_eq ?_
  rw [State.returnFrom_reg, if_pos rfl, handlerSaved_reg, if_pos rfl, BitVec.sub_add_cancel]

/-- Settles O48: RET reads the cell SAV wrote, and finds there the pair that entry saved in `T`. -/
theorem aHandlerReturnsToTheInterruptedProgram : Obligations.AHandlerReturnsToTheInterruptedProgram := by
  intro s hs hie hram
  have hstored := handlerSaved_storedAt hs hie
  have hpacked : (handlerSaved s).memRead ((handlerSaved s).reg 2#4) = packXP s.x s.p := by
    rw [handlerSaved_reg, if_pos rfl]
    exact hstored.memRead_of_isRam hram
  obtain ⟨hx, hp⟩ := State.returnFrom_of_packed hpacked true
  obtain ⟨-, hother⟩ := hstored
  obtain ⟨hq, hacc, houtside⟩ := handlerSaved_frame s
  exact ⟨decReg 2#4 s.interrupt, handlerSaved s, (handlerSaved s).returnFrom true, rfl, rfl, rfl, hx, hp, rfl, hq,
    handlerSaved_returnFrom_sameRegs s, hacc, houtside, hother⟩

end Sys2Proof.Machine

/-! PROOFS. The rotates, load and logic via X, and the immediate forms (spec/45_alu.md): `D` with `DF` as a ring of nine
bits, and the operand fetch beside a write of `D` and `DF`. -/

namespace Sys2Proof.Machine

/-! ### `D` and `DF` as a ring of nine bits (R221, R223) -/

/-- SHRC on the pair `(D, DF)`. -/
def rotRight (v : Byte × Bool) : Byte × Bool := shrC v.1 v.2 true

/-- SHLC on the pair `(D, DF)`. -/
def rotLeft (v : Byte × Bool) : Byte × Bool := shlC v.1 v.2 true

/-- The ring cut so that `DF` stands above `D`, as bit 8. -/
def dfAbove (v : Byte × Bool) : BitVec 9 := .cons v.2 v.1

/-- The ring cut so that `DF` stands below `D`, as bit 0. -/
def dfBelow (v : Byte × Bool) : BitVec 9 := .concat v.1 v.2

theorem dfAbove_toNat (v : Byte × Bool) : (dfAbove v).toNat = 256 * v.2.toNat + v.1.toNat := by
  rw [dfAbove, BitVec.toNat_cons', Nat.shiftLeft_eq, Nat.mul_comm]

theorem dfBelow_toNat (v : Byte × Bool) : (dfBelow v).toNat = 2 * v.1.toNat + v.2.toNat := by
  rw [dfBelow, BitVec.toNat_concat, Nat.mul_comm]

theorem arith_eq_of_toNat {v w : Byte × Bool} (hd : v.1.toNat = w.1.toNat) (hdf : v.2.toNat = w.2.toNat) : v = w :=
  Prod.ext (BitVec.eq_of_toNat_eq hd) (Function.LeftInverse.injective Bool.ofNat_toNat hdf)

theorem dfAbove_injective : Function.Injective dfAbove := by
  intro v w h
  have hnat : 256 * v.2.toNat + v.1.toNat = 256 * w.2.toNat + w.1.toNat := by
    rw [← dfAbove_toNat, h, dfAbove_toNat]
  exact arith_eq_of_toNat (by omega) (by omega)

theorem dfBelow_injective : Function.Injective dfBelow := by
  intro v w h
  have hnat : 2 * v.1.toNat + v.2.toNat = 2 * w.1.toNat + w.2.toNat := by
    rw [← dfBelow_toNat, h, dfBelow_toNat]
  have hv := v.2.toNat_le
  have hw := w.2.toNat_le
  exact arith_eq_of_toNat (by omega) (by omega)

/-- A flag that says whether a bit is 1 is, as a number, that bit. -/
theorem toNat_eq_of_iff {c : Bool} {n : Nat} (h : c = true ↔ n = 1) (hn : n < 2) : c.toNat = n := by
  have hone : c.toNat = 1 ↔ n = 1 := Bool.toNat_eq_one.trans h
  have hc := c.toNat_lt
  omega

/-- SHRC moves no bit of the ring, only the cut, from below bit 0 of `D` to above it. -/
theorem dfBelow_rotRight (v : Byte × Bool) : dfBelow (rotRight v) = dfAbove v := by
  obtain ⟨hd, hdf⟩ := shrC_spec v.1 v.2 true
  have hcarry := toNat_eq_of_iff hdf (Nat.mod_lt _ Nat.two_pos)
  apply BitVec.eq_of_toNat_eq
  rw [dfBelow_toNat, dfAbove_toNat, rotRight, hd, hcarry, if_pos rfl]
  omega

/-- SHLC moves the cut the other way. -/
theorem dfAbove_rotLeft (v : Byte × Bool) : dfAbove (rotLeft v) = dfBelow v := by
  obtain ⟨hd, hdf⟩ := shlC_spec v.1 v.2 true
  have hbyte := v.1.isLt
  have hcarry : (rotLeft v).2.toNat = v.1.toNat / 128 :=
    toNat_eq_of_iff (hdf.trans (by omega)) (by omega)
  apply BitVec.eq_of_toNat_eq
  rw [dfAbove_toNat, dfBelow_toNat, hcarry, rotLeft, hd, if_pos rfl]
  omega

theorem rotLeft_rotRight : Function.LeftInverse rotLeft rotRight := fun v =>
  dfAbove_injective ((dfAbove_rotLeft (rotRight v)).trans (dfBelow_rotRight v))

theorem rotRight_rotLeft : Function.LeftInverse rotRight rotLeft := fun v =>
  dfBelow_injective ((dfBelow_rotRight (rotLeft v)).trans (dfAbove_rotLeft v))

/-- SHRC brings each bit of the ring one place down, and bit 0 to the top. -/
theorem dfAbove_rotRight_getLsbD (v : Byte × Bool) {k : Nat} (hk : k < 9) :
    (dfAbove (rotRight v)).getLsbD k = (dfAbove v).getLsbD ((k + 1) % 9) := by
  rw [← dfBelow_rotRight v, dfAbove, dfBelow, BitVec.getLsbD_cons, BitVec.getLsbD_concat]
  by_cases h : k = 8
  · simp [h]
  · rw [Nat.mod_eq_of_lt (by omega), if_neg h, if_neg k.succ_ne_zero, Nat.add_sub_cancel]

theorem dfAbove_rotRight_iterate_getLsbD (v : Byte × Bool) (n : Nat) :
    ∀ k < 9, (dfAbove (rotRight^[n] v)).getLsbD k = (dfAbove v).getLsbD ((k + n) % 9) := by
  induction n with
  | zero => intro k hk; rw [Function.iterate_zero_apply, Nat.add_zero, Nat.mod_eq_of_lt hk]
  | succ n ih =>
    intro k hk
    rw [Function.iterate_succ_apply', dfAbove_rotRight_getLsbD _ hk, ih _ (Nat.mod_lt _ (by decide)), Nat.mod_add_mod,
      Nat.add_right_comm, Nat.add_assoc]

/-- Nine places are once round the ring. -/
theorem rotRight_iterate_nine (v : Byte × Bool) : rotRight^[9] v = v := by
  refine dfAbove_injective (BitVec.eq_of_getLsbD_eq fun k hk => ?_)
  rw [dfAbove_rotRight_iterate_getLsbD v 9 k hk, Nat.add_mod_right, Nat.mod_eq_of_lt hk]

/-- Once round the other way undoes once round. -/
theorem rotLeft_iterate_nine (v : Byte × Bool) : rotLeft^[9] v = v :=
  calc rotLeft^[9] v = rotLeft^[9] (rotRight^[9] v) := by rw [rotRight_iterate_nine]
    _ = v := rotLeft_rotRight.iterate 9 v

/-! ### The rotates on whole states -/

/-- `(D, DF)` replaced by its image under `f`. -/
def State.mapArith (f : Byte × Bool → Byte × Bool) (s : State) : State := s.setArith (f (s.d, s.df))

theorem exec_shrc (s : State) : exec .shrc s = .next (s.mapArith rotRight) := rfl

theorem exec_shlc (s : State) : exec .shlc s = .next (s.mapArith rotLeft) := rfl

theorem State.mapArith_mapArith (f g : Byte × Bool → Byte × Bool) (s : State) :
    (s.mapArith f).mapArith g = s.mapArith (g ∘ f) := rfl

theorem State.mapArith_eq_self {f : Byte × Bool → Byte × Bool} (hf : ∀ v, f v = v) (s : State) :
    s.mapArith f = s := by
  rw [State.mapArith, hf]
  rfl

/-- A run of an instruction that only maps `(D, DF)` maps it as often as the run is long. -/
theorem run_mapArith {i : Instr} {r : Byte × Bool → Byte × Bool} (hi : ∀ s, exec i s = .next (s.mapArith r))
    {f : Nat → State} {n : Nat} (hrun : ∀ k, k < n → exec i (f k) = .next (f (k + 1))) :
    f n = (f 0).mapArith r^[n] := by
  induction n with
  | zero => rfl
  | succ n ih =>
    have hlast : f (n + 1) = (f n).mapArith r := Host.Outcome.next.inj ((hrun n n.lt_succ_self).symm.trans (hi _))
    rw [hlast, ih fun k hk => hrun k (Nat.lt_succ_of_lt hk), State.mapArith_mapArith, Function.iterate_succ']

/-- An instruction that maps `(D, DF)` back undoes one that maps it. -/
theorem mapArith_undo {i j : Instr} {f g : Byte × Bool → Byte × Bool} (hi : ∀ s, exec i s = .next (s.mapArith f))
    (hj : ∀ s, exec j s = .next (s.mapArith g)) (hgf : Function.LeftInverse g f) {s t u : State}
    (hst : exec i s = .next t) (htu : exec j t = .next u) : u = s := by
  obtain rfl := Host.Outcome.next.inj ((hi s).symm.trans hst)
  obtain rfl := Host.Outcome.next.inj ((hj _).symm.trans htu)
  exact State.mapArith_eq_self hgf s

/-- Settles O26: the two are the two directions of turning a ring of nine bits. -/
theorem rotatesAreInverseAndOfOrderNine : Obligations.RotatesAreInverseAndOfOrderNine := by
  refine ⟨fun _ _ _ => mapArith_undo exec_shrc exec_shlc rotLeft_rotRight,
    fun _ _ _ => mapArith_undo exec_shlc exec_shrc rotRight_rotLeft,
    List.forall_mem_cons.2 ⟨fun f hrun => ?shrc, List.forall_mem_singleton.2 fun f hrun => ?shlc⟩⟩
  case shrc => rw [run_mapArith exec_shrc hrun, State.mapArith_eq_self rotRight_iterate_nine]
  case shlc => rw [run_mapArith exec_shlc hrun, State.mapArith_eq_self rotLeft_iterate_nine]

/-! ### Load and logic via X (R210 to R213) -/

/-- Settles O18: each is one operation on bytes, which acts bit by bit, and a write of `D`. -/
theorem loadAndLogicViaX : Obligations.LoadAndLogicViaX := by
  refine List.forall_mem_cons.2 ⟨fun s => ?ldx, List.forall_mem_cons.2 ⟨fun s => ?or,
    List.forall_mem_cons.2 ⟨fun s => ?and, List.forall_mem_singleton.2 fun s => ?xor⟩⟩⟩
  case ldx => exact ⟨_, rfl, fun _ _ => rfl, rfl, s.setD_sameBut _⟩
  case or => exact ⟨_, rfl, fun _ _ => BitVec.getLsbD_or, rfl, s.setD_sameBut _⟩
  case and => exact ⟨_, rfl, fun _ _ => BitVec.getLsbD_and, rfl, s.setD_sameBut _⟩
  case xor => exact ⟨_, rfl, fun _ _ => BitVec.getLsbD_xor, rfl, s.setD_sameBut _⟩

/-! ### The immediate forms (R224 to R233) -/

/-- An operand fetch and a write of `D` and `DF` step `R[P]` and change nothing else. -/
theorem State.operandFetched_setArith_frame (s : State) (v : Byte × Bool) :
    Stepped s.p 1 s (s.operandFetched.setArith v) ∧ SameBut [s.p] s (s.operandFetched.setArith v) :=
  ⟨s.setReg_add_stepped s.p 1#16, (s.setArith v).setReg_sameBut s.p (s.pc + 1#16)⟩

/-- The same for a write of `D` alone, which writes back the `DF` there was. -/
theorem State.operandFetched_setD_frame (s : State) (v : Byte) :
    Stepped s.p 1 s (s.operandFetched.setD v) ∧ SameBut [s.p] s (s.operandFetched.setD v) :=
  s.operandFetched_setArith_frame (v, s.df)

/-- Settles O22: the operand byte is written to `D` after the fetch stepped `R[P]`. -/
theorem ldiLoadsTheOperand : Obligations.LdiLoadsTheOperand := fun b =>
  ⟨rfl, fun s => ⟨s.operandFetched.setD b, rfl, rfl, rfl, s.operandFetched_setD_frame b⟩⟩

/-- Settles O23: the operations of O18 on the operand byte. -/
theorem logicImmediates : Obligations.LogicImmediates := by
  refine List.forall_mem_cons.2 ⟨fun b s => ?ori, List.forall_mem_cons.2 ⟨fun b s => ?ani,
    List.forall_mem_singleton.2 fun b s => ?xri⟩⟩
  case ori => exact ⟨_, rfl, fun _ _ => BitVec.getLsbD_or, rfl, s.operandFetched_setD_frame _⟩
  case ani => exact ⟨_, rfl, fun _ _ => BitVec.getLsbD_and, rfl, s.operandFetched_setD_frame _⟩
  case xri => exact ⟨_, rfl, fun _ _ => BitVec.getLsbD_xor, rfl, s.operandFetched_setD_frame _⟩

/-- Settles O24: ADI and ADCI are `addC` of the operand byte, with carry 0 and with `DF`. -/
theorem addImmediates : Obligations.AddImmediates := by
  refine List.forall_mem_cons.2 ⟨fun b s => ?adi, List.forall_mem_singleton.2 fun b s => ?adci⟩
  case adi => exact ⟨_, rfl, and_assoc.1 ⟨addC_spec b s.d false, s.operandFetched_setArith_frame _⟩⟩
  case adci => exact ⟨_, rfl, and_assoc.1 ⟨addC_spec b s.d s.df, s.operandFetched_setArith_frame _⟩⟩

/-- Settles O25: the four are `subB` with the operand byte on either side, without a borrow and with `DF`. -/
theorem subtractImmediates : Obligations.SubtractImmediates := by
  refine List.forall_mem_cons.2 ⟨fun b s => ?sdi, List.forall_mem_cons.2 ⟨fun b s => ?sdbi,
    List.forall_mem_cons.2 ⟨fun b s => ?smi, List.forall_mem_singleton.2 fun b s => ?smbi⟩⟩⟩
  case sdi => exact ⟨_, rfl, and_assoc.1 ⟨subB_true_spec_int b s.d, s.operandFetched_setArith_frame _⟩⟩
  case sdbi => exact ⟨_, rfl, and_assoc.1 ⟨subB_spec_int b s.d s.df, s.operandFetched_setArith_frame _⟩⟩
  case smi => exact ⟨_, rfl, and_assoc.1 ⟨subB_true_spec_int s.d b, s.operandFetched_setArith_frame _⟩⟩
  case smbi => exact ⟨_, rfl, and_assoc.1 ⟨subB_spec_int s.d b s.df, s.operandFetched_setArith_frame _⟩⟩

end Sys2Proof.Machine

/-! PROOFS. Register bytes and selectors (spec/46_register_bytes_select.md): the six families row by row, and what a move
between `D` and one byte of a register, or a write of `P` or `X`, changes. -/

namespace Sys2Proof.Machine

/-! ### The rows: the operation each runs, its opcode, its register (R260 to R265) -/

theorem exec_gloRows : ∀ q ∈ Instr.gloRows, exec q.1 = fun s => .next (getLow q.2 s) := List.map_inj_left.1 rfl

theorem exec_ghiRows : ∀ q ∈ Instr.ghiRows, exec q.1 = fun s => .next (getHigh q.2 s) := List.map_inj_left.1 rfl

theorem exec_ploRows : ∀ q ∈ Instr.ploRows, exec q.1 = fun s => .next (putLow q.2 s) := List.map_inj_left.1 rfl

theorem exec_phiRows : ∀ q ∈ Instr.phiRows, exec q.1 = fun s => .next (putHigh q.2 s) := List.map_inj_left.1 rfl

theorem exec_sepRows : ∀ q ∈ Instr.sepRows, exec q.1 = fun s => .next (s.setP q.2) := List.map_inj_left.1 rfl

theorem exec_sexRows : ∀ q ∈ Instr.sexRows, exec q.1 = fun s => .next (s.setX q.2) := List.map_inj_left.1 rfl

theorem gloRows_codedBy : CodedBy 0x8#4 Instr.gloRows := by unfold CodedBy; decide

theorem ghiRows_codedBy : CodedBy 0x9#4 Instr.ghiRows := by unfold CodedBy; decide

theorem ploRows_codedBy : CodedBy 0xA#4 Instr.ploRows := by unfold CodedBy; decide

theorem phiRows_codedBy : CodedBy 0xB#4 Instr.phiRows := by unfold CodedBy; decide

theorem sepRows_codedBy : CodedBy 0xD#4 Instr.sepRows := by unfold CodedBy; decide

theorem sexRows_codedBy : CodedBy 0xE#4 Instr.sexRows := by unfold CodedBy; decide

theorem gloRows_everyReg : EveryReg Instr.gloRows := by unfold EveryReg; decide

theorem ghiRows_everyReg : EveryReg Instr.ghiRows := by unfold EveryReg; decide

theorem ploRows_everyReg : EveryReg Instr.ploRows := by unfold EveryReg; decide

theorem phiRows_everyReg : EveryReg Instr.phiRows := by unfold EveryReg; decide

theorem sepRows_everyReg : EveryReg Instr.sepRows := by unfold EveryReg; decide

theorem sexRows_everyReg : EveryReg Instr.sexRows := by unfold EveryReg; decide

/-! ### One byte of a register (R8, R260 to R263) -/

/-- The high byte on numbers; a word has nothing above it. -/
theorem hiByte_toNat (w : Word) : (hiByte w).toNat = w.toNat / 256 := by
  have hw : w.toNat / 256 < 256 := Nat.div_lt_of_lt_mul w.isLt
  rw [hiByte, BitVec.extractLsb'_toNat, Nat.shiftRight_eq_div_pow, Nat.mod_eq_of_lt hw]

theorem putLow_reg_toNat (n : RegNo) (s : State) :
    ((putLow n s).reg n).toNat = (s.reg n).toNat / 256 * 256 + s.d.toNat := by
  rw [putLow, State.setReg_reg, if_pos rfl, withLo_toNat]

theorem putHigh_reg_toNat (n : RegNo) (s : State) :
    ((putHigh n s).reg n).toNat = s.d.toNat * 256 + (s.reg n).toNat % 256 := by
  rw [putHigh, State.setReg_reg, if_pos rfl, withHi_toNat]

/-- Settles O27: every row runs `getLow` or `getHigh`, which write `D` alone. -/
theorem gloAndGhiReadABytes : Obligations.GloAndGhiReadABytes := by
  refine ⟨gloRows_codedBy, gloRows_everyReg, ghiRows_codedBy, ghiRows_everyReg, fun q hq s => ?glo, fun q hq s => ?ghi⟩
  case glo =>
    exact ⟨getLow q.2 s, congrFun (exec_gloRows q hq) s, loByte_toNat _, rfl, s.setD_sameBut _⟩
  case ghi =>
    exact ⟨getHigh q.2 s, congrFun (exec_ghiRows q hq) s, hiByte_toNat _, rfl, s.setD_sameBut _⟩

/-- Settles O28: every row runs `putLow` or `putHigh`, which write one register alone, its other byte as it was. -/
theorem ploAndPhiWriteAByte : Obligations.PloAndPhiWriteAByte := by
  refine ⟨ploRows_codedBy, ploRows_everyReg, phiRows_codedBy, phiRows_everyReg, fun q hq s => ?plo, fun q hq s => ?phi⟩
  case plo =>
    exact ⟨putLow q.2 s, congrFun (exec_ploRows q hq) s, putLow_reg_toNat q.2 s, s.setReg_sameAcc _ _,
      s.setReg_sameBut _ _⟩
  case phi =>
    exact ⟨putHigh q.2 s, congrFun (exec_phiRows q hq) s, putHigh_reg_toNat q.2 s, s.setReg_sameAcc _ _,
      s.setReg_sameBut _ _⟩

/-! ### The selectors (R12, R18, R264, R265) -/

/-- The program counter is the register `P` names, with the value it already had. -/
theorem State.setP_pc (s : State) (n : RegNo) : (s.setP n).pc = s.reg n := rfl

/-- Writing `P` changes no register, and nothing outside the control elements. -/
theorem State.setP_frame (s : State) (n : RegNo) :
    SameRegsBut [] s (s.setP n) ∧ SameMem s (s.setP n) ∧ SameAcc s (s.setP n) ∧ SameOutside s (s.setP n) := by
  simp [SameRegsBut, SameMem, SameAcc, SameOutside, SameFrame, SameLatches, SameIO]

/-- Writing `X` changes no register, and nothing outside the control elements. -/
theorem State.setX_frame (s : State) (n : RegNo) :
    SameRegsBut [] s (s.setX n) ∧ SameMem s (s.setX n) ∧ SameAcc s (s.setX n) ∧ SameOutside s (s.setX n) := by
  simp [SameRegsBut, SameMem, SameAcc, SameOutside, SameFrame, SameLatches, SameIO]

/-- Settles O29: every row writes `P` alone. -/
theorem sepSelectsTheProgramCounter : Obligations.SepSelectsTheProgramCounter := by
  refine ⟨sepRows_codedBy, sepRows_everyReg, fun q hq s => ?_⟩
  exact ⟨s.setP q.2, congrFun (exec_sepRows q hq) s, s.setP_p _, s.setP_pc _, s.setP_x _, s.setP_q _, s.setP_ie _,
    s.setP_t _, s.setP_frame _⟩

/-- Settles O30: every row writes `X` alone. -/
theorem sexSelectsTheDataPointer : Obligations.SexSelectsTheDataPointer := by
  refine ⟨sexRows_codedBy, sexRows_everyReg, fun q hq s => ?_⟩
  exact ⟨s.setX q.2, congrFun (exec_sexRows q hq) s, s.setX_x _, s.setX_p _, s.setX_q _, s.setX_ie _, s.setX_t _,
    s.setX_frame _⟩

end Sys2Proof.Machine

/-! PROOFS. Long branches, long skips and no-op (spec/47_long_branch.md): what the two common bodies change, and each row
as one of them with its condition. -/

namespace Sys2Proof.Machine

/-! ### What a long branch changes (R281) -/

theorem longBranch_reg_p (c : Bool) (a : Word) (s : State) :
    ((longBranch c a s).reg s.p).toNat = if c then a.toNat else (s.pc.toNat + 2) % 65536 := by
  rw [longBranch_eq, State.setPc_reg, if_pos rfl, apply_ite BitVec.toNat, BitVec.toNat_add]
  rfl

theorem longBranch_sameAcc (c : Bool) (a : Word) (s : State) : SameAcc s (longBranch c a s) := by
  rw [longBranch_eq]
  exact s.setReg_sameAcc s.p _

theorem longBranch_sameBut (c : Bool) (a : Word) (s : State) : SameBut [s.p] s (longBranch c a s) := by
  rw [longBranch_eq]
  exact s.setPc_sameBut _

/-! ### What a long skip changes (R281, D34) -/

/-- A skip that is not taken steps `R[P]` by 0: the state is the one before. -/
theorem longSkip_stepped (c : Bool) (s : State) : Stepped s.p (if c then 2 else 0) s (longSkip c s) := by
  cases c with
  | false => exact (Nat.mod_eq_of_lt (s.reg s.p).isLt).symm
  | true => exact s.setReg_add_stepped s.p 2#16

theorem longSkip_sameAcc (c : Bool) (s : State) : SameAcc s (longSkip c s) := by
  rw [longSkip_eq]
  exact s.setReg_sameAcc s.p _

theorem longSkip_sameBut (c : Bool) (s : State) : SameBut [s.p] s (longSkip c s) := by
  rw [longSkip_eq]
  exact s.setPc_sameBut _

/-! ### The family row by row (R280, D18) -/

/-- The branch rows of R280, each with its condition. -/
def longBranchRows : List ((Word → Instr) × (State → Bool)) :=
  [(.lbr, fun _ => true), (.lbq, fun s => s.q), (.lbz, fun s => decide (s.d.toNat = 0)), (.lbdf, fun s => s.df),
   (.lbnq, fun s => !s.q), (.lbnz, fun s => decide (s.d.toNat ≠ 0)), (.lbnf, fun s => !s.df)]

/-- The skip rows of R280, each with its condition. -/
def longSkipRows : List (Instr × (State → Bool)) :=
  [(.nop, fun _ => false), (.lsnq, fun s => !s.q), (.lsnz, fun s => decide (s.d.toNat ≠ 0)), (.lsnf, fun s => !s.df),
   (.lskp, fun _ => true), (.lsie, fun s => s.ie), (.lsq, fun s => s.q), (.lsz, fun s => decide (s.d.toNat = 0)),
   (.lsdf, fun s => s.df)]

theorem State.not_dIsZero_eq (s : State) : (!s.dIsZero) = decide (s.d.toNat ≠ 0) := by
  rw [decide_not, State.dIsZero_eq]

theorem exec_longBranchRows :
    ∀ q ∈ longBranchRows, ∀ (a : Word) (s : State), exec (q.1 a) s = .next (longBranch (q.2 s) a s) := by
  have hlbz (a : Word) (s : State) : exec (.lbz a) s = .next (longBranch (decide (s.d.toNat = 0)) a s) := by
    rw [← State.dIsZero_eq]; rfl
  have hlbnz (a : Word) (s : State) : exec (.lbnz a) s = .next (longBranch (decide (s.d.toNat ≠ 0)) a s) := by
    rw [← State.not_dIsZero_eq]; rfl
  simp only [longBranchRows, List.forall_mem_cons]
  exact ⟨fun _ _ => rfl, fun _ _ => rfl, hlbz, fun _ _ => rfl, fun _ _ => rfl, hlbnz, fun _ _ => rfl,
    List.forall_mem_nil _⟩

theorem exec_longSkipRows : ∀ q ∈ longSkipRows, ∀ s : State, exec q.1 s = .next (longSkip (q.2 s) s) := by
  have hlsnz (s : State) : exec .lsnz s = .next (longSkip (decide (s.d.toNat ≠ 0)) s) := by
    rw [← State.not_dIsZero_eq]; rfl
  have hlsz (s : State) : exec .lsz s = .next (longSkip (decide (s.d.toNat = 0)) s) := by
    rw [← State.dIsZero_eq]; rfl
  simp only [longSkipRows, List.forall_mem_cons]
  exact ⟨fun _ => rfl, fun _ => rfl, hlsnz, fun _ => rfl, fun _ => rfl, fun _ => rfl, fun _ => rfl, hlsz, fun _ => rfl,
    List.forall_mem_nil _⟩

/-! ### The obligations -/

/-- Settles O31: every row is a long branch on its condition. -/
theorem longBranches : Obligations.LongBranches := by
  intro q hq a s
  exact ⟨_, exec_longBranchRows q hq a s, longBranch_reg_p .., longBranch_sameAcc .., longBranch_sameBut ..⟩

/-- Settles O32: every row is a long skip on its condition. -/
theorem longSkips : Obligations.LongSkips := by
  intro q hq s
  exact ⟨_, exec_longSkipRows q hq s, longSkip_stepped .., longSkip_sameAcc .., longSkip_sameBut ..⟩

end Sys2Proof.Machine

/-! PROOFS. The frame FSM and the interrupt (spec/60_exceptions.md): interrupt entry, the idle skip, what leaving each
phase does, and the frame as the two phases run one after the other. -/

namespace Sys2Proof.Machine

/-! ### Interrupt entry (R316, D19) -/

/-- A masked request is dropped. -/
theorem State.interrupt_of_masked {s : State} (h : s.ie = false) : s.interrupt = s := by
  simp [State.interrupt, h]

/-- The control elements entry leaves; what it saves in `T` is in `interrupt_saves`. -/
theorem State.interrupt_selects {s : State} (h : s.ie = true) : s.interrupt.p = 1#4 ∧ s.interrupt.x = 2#4 := by
  simp [State.interrupt, h]

/-- The byte entry saves, as a number (R17). -/
theorem State.interrupt_t_toNat {s : State} (h : s.ie = true) :
    s.interrupt.t.toNat = 16 * s.x.toNat + s.p.toNat := by
  obtain ⟨ht, -⟩ := State.interrupt_saves h
  rw [ht, packXP_toNat]

theorem State.interrupt_sameRegs (s : State) : SameRegsBut [] s s.interrupt := fun m _ => s.interrupt_reg m

theorem State.interrupt_sameAcc (s : State) : SameAcc s s.interrupt := ⟨s.interrupt_d, s.interrupt_df⟩

theorem State.interrupt_sameOutside (s : State) : SameOutside s s.interrupt := by
  simp [SameOutside, SameFrame, SameLatches, SameIO]

/-- Settles O46: with `IE = 1` entry writes four control elements, with `IE = 0` nothing. -/
theorem interruptEntry : Obligations.InterruptEntry := by
  refine fun s => ⟨fun h => ?_, State.interrupt_of_masked⟩
  obtain ⟨hp, hx⟩ := State.interrupt_selects h
  exact ⟨State.interrupt_t_toNat h, hp, hx, s.interrupt_ie, s.interrupt_q, s.interrupt_sameRegs, s.interrupt_memRead,
    s.interrupt_sameAcc, s.interrupt_sameOutside⟩

/-! ### Leaving `ActiveDisplay` (R313) -/

theorem State.idleSkip_sameRegs (s : State) : SameRegsBut [s.p] s s.idleSkip := by
  rcases s.idleSkip_cases with ⟨-, e⟩ | ⟨-, e⟩
  · rw [e]
    exact .of_reg_ite (s.setPc_reg · _)
  · rw [e]
    exact fun _ _ => rfl

/-- A skip that is not taken steps `R[P]` by 0. -/
theorem State.idleSkip_stepped (s : State) :
    Stepped s.p (if s.memRead s.pc = 0x00#8 then 1 else 0) s s.idleSkip := by
  rcases s.idleSkip_cases with ⟨h, e⟩ | ⟨h, e⟩
  · rw [if_pos h, e]
    exact s.setReg_add_stepped s.p 1#16
  · rw [if_neg h, e]
    exact (Nat.mod_eq_of_lt (s.reg s.p).isLt).symm

/-- `s` with `InterruptPreliminary` entered (R313, D4): what `LeaveActiveDisplay()` does whatever the display. -/
def State.prelimEntered (s : State) : State :=
  s.enterPhase .interruptPreliminary s.config.budgetPrelim .activeDisplayEnded

theorem State.leaveActiveDisplay_of_displayOff {s : State} (h : s.displayEnabled = false) :
    s.leaveActiveDisplay = s.prelimEntered := by
  simp [State.leaveActiveDisplay, State.prelimEntered, h]

theorem State.leaveActiveDisplay_of_displayOn {s : State} (h : s.displayEnabled = true) :
    s.leaveActiveDisplay = s.prelimEntered.idleSkip.interrupt := by
  simp [State.leaveActiveDisplay, State.prelimEntered, h]

/-- Entering the phase writes no register and no control element. -/
theorem State.prelimEntered_sameCpu (s : State) : SameRegsBut [] s s.prelimEntered ∧ SameControl s s.prelimEntered :=
  ⟨fun _ _ => rfl, rfl, rfl, rfl, rfl, rfl⟩

/-- The idle skip comes before the interrupt, so entry saves and drops what the phase was left with. -/
theorem State.prelimEntered_idleSkip_sameControl (s : State) : SameControl s s.prelimEntered.idleSkip := by
  simp [SameControl, State.prelimEntered]

theorem State.boundary_of_activeDisplay {s : State} (hp : s.phase = .activeDisplay) (hc : s.cycles < 0) :
    s.boundary = s.leaveActiveDisplay := by
  simp only [State.boundary, if_pos hc, State.phaseTransition, hp]

/-- Settles O43: the display decides whether the idle skip and then the interrupt follow the change of phase. -/
theorem leavingActiveDisplay : Obligations.LeavingActiveDisplay := by
  intro u hp hc
  rw [State.boundary_of_activeDisplay hp hc]
  refine ⟨u.leaveActiveDisplay_phase, u.leaveActiveDisplay_cycles, u.leaveActiveDisplay_signal,
    u.leaveActiveDisplay_memRead, by simp [SameAcc], u.leaveActiveDisplay_q, by simp [SameLatches], by simp [SameIO],
    u.leaveActiveDisplay_screenBase, u.leaveActiveDisplay_scrollOffset, fun hoff => ?off, fun hon => ?on⟩
  case off =>
    rw [State.leaveActiveDisplay_of_displayOff hoff]
    exact u.prelimEntered_sameCpu
  case on =>
    have hcontrol := u.prelimEntered_idleSkip_sameControl
    have ⟨_, hie, _, hx, hpsel⟩ := hcontrol
    rw [State.leaveActiveDisplay_of_displayOn hon]
    refine ⟨?regs, ?pc, fun h => ?taken, fun h => ?masked⟩
    case regs => exact u.prelimEntered.idleSkip_sameRegs.trans fun m _ => State.interrupt_reg _ m
    case pc =>
      rw [Stepped, State.interrupt_reg]
      exact u.prelimEntered.idleSkip_stepped
    case taken =>
      have hset : u.prelimEntered.idleSkip.ie = true := hie.trans h
      obtain ⟨hp1, hx2⟩ := State.interrupt_selects hset
      exact ⟨by rw [State.interrupt_t_toNat hset, hx, hpsel], hp1, hx2, State.interrupt_ie _⟩
    case masked =>
      rw [State.interrupt_of_masked (hie.trans h)]
      exact hcontrol

/-! ### Leaving `InterruptPreliminary` (R314, R315, R329) -/

theorem State.boundary_of_interruptPreliminary {s : State} (hp : s.phase = .interruptPreliminary)
    (hc : s.cycles < 0) : s.boundary = s.leaveInterruptPreliminary := by
  simp only [State.boundary, if_pos hc, State.phaseTransition, hp]

/-- Settles O44: the transition writes the FSM, the window latches and the trace, and nothing of the CPU. -/
theorem leavingInterruptPreliminary : Obligations.LeavingInterruptPreliminary := by
  intro u hp hc
  rw [State.boundary_of_interruptPreliminary hp hc]
  exact ⟨rfl, rfl, rfl, windowBase_toNat _, loByte_toNat _, rfl, fun m _ => u.leaveInterruptPreliminary_reg m,
    u.leaveInterruptPreliminary_memRead, ⟨rfl, rfl⟩, ⟨rfl, rfl, rfl, rfl, rfl⟩, ⟨rfl, rfl⟩⟩

/-! ### Where interrupts get disabled (R317, R318) -/

/-- DIS is the one instruction that disables interrupts (R191). -/
theorem exec_ie_of_ne_dis {i : Instr} {s u : State} (h : exec i s = .next u) (hdis : i ≠ .dis) (hs : s.ie = true) :
    u.ie = true := by
  by_cases hret : i = .ret
  · subst hret
    obtain rfl : s.returnFrom true = u := Host.Outcome.next.inj h
    rfl
  · obtain ⟨f, -, he, rfl⟩ := exec_next h
    exact (he.ie_eq hret hdis s).trans hs

/-- The boundary check disables interrupts only by taking the interrupt: at the end of `ActiveDisplay`, with the
display enabled. -/
theorem State.boundary_disables {u : State} (hu : u.ie = true) (h : u.boundary.ie = false) :
    u.boundary.signal = .activeDisplayEnded ∧ u.boundary.displayEnabled = true ∧ u.boundary.p = 1#4 ∧
      u.boundary.x = 2#4 := by
  rcases u.boundary_cases with ⟨-, e⟩ | ⟨-, -, e⟩ | ⟨-, -, e⟩
  · exact absurd h (by simp [e, hu])
  · rw [e] at h ⊢
    cases hd : u.displayEnabled with
    | false =>
      have hkept : u.leaveActiveDisplay.ie = u.ie := by rw [State.leaveActiveDisplay_of_displayOff hd]; rfl
      exact absurd (hkept.symm.trans h) (by simp [hu])
    | true =>
      obtain ⟨-, hie, -, -, -⟩ := u.prelimEntered_idleSkip_sameControl
      have hentry := State.interrupt_selects (hie.trans hu)
      rw [← State.leaveActiveDisplay_of_displayOn hd] at hentry
      exact ⟨u.leaveActiveDisplay_signal, u.leaveActiveDisplay_displayEnabled.trans hd, hentry⟩
  · exact absurd h (by simp [e, hu])

/-- The signal of a step tells that it ended an `ActiveDisplay` phase. -/
theorem step_of_activeDisplayEnded {s t : State} (h : step s = .next t) (hsig : t.signal = .activeDisplayEnded) :
    s.phase = .activeDisplay ∧ s.cycles < 2 := by
  rcases step_phase_cases h with ⟨-, -, -, hnone⟩ | ⟨hc, hp, -⟩ | ⟨-, -, -, -, hother⟩
  · exact absurd (hnone.symm.trans hsig) (by decide)
  · exact ⟨hp, hc⟩
  · exact absurd (hother.symm.trans hsig) (by decide)

/-- Settles O47: unless the instruction is DIS, it hands `IE = 1` to the boundary check, which then took the
interrupt. -/
theorem interruptsComeOnlyAtTheEndOfActiveDisplay : Obligations.InterruptsComeOnlyAtTheEndOfActiveDisplay := by
  intro s t h hs ht
  by_cases hdis : s.nextInstr = .dis
  · exact .inl hdis
  · obtain ⟨u, hu, rfl⟩ := step_next h
    have hie : u.ie = true := exec_ie_of_ne_dis hu hdis hs
    obtain ⟨hsig, hdisplay, hp, hx⟩ := State.boundary_disables hie ht
    obtain ⟨hphase, hcycles⟩ := step_of_activeDisplayEnded h hsig
    exact .inr ⟨hphase, hcycles, hsig, hdisplay, hp, hx⟩

/-! ### Phases and frames (R20, R311, R320) -/

/-- The budget a phase is entered with (R7). -/
def Phase.budget (cfg : Config) : Phase → Nat
  | .activeDisplay => cfg.budgetActive
  | .interruptPreliminary => cfg.budgetPrelim

/-- The phase that follows (R311). -/
def Phase.other : Phase → Phase
  | .activeDisplay => .interruptPreliminary
  | .interruptPreliminary => .activeDisplay

/-- The signal of the step that ends a phase (R319). -/
def Phase.endSignal : Phase → PhaseSignal
  | .activeDisplay => .activeDisplayEnded
  | .interruptPreliminary => .interruptPreliminaryEnded

theorem Phase.eq_other_of_ne : ∀ {ph ph' : Phase}, ph' ≠ ph → ph' = ph.other
  | .activeDisplay, .interruptPreliminary, _ | .interruptPreliminary, .activeDisplay, _ => rfl
  | .activeDisplay, .activeDisplay, h | .interruptPreliminary, .interruptPreliminary, h => absurd rfl h

/-- The number of steps of a frame, `N_A + N_P` (R320). -/
def frameSteps (cfg : Config) : Nat := phaseSteps cfg.budgetActive + phaseSteps cfg.budgetPrelim

/-- `s` is at the start of phase `ph`, with its whole budget, under the parameters `cfg`. -/
structure State.AtStartOf (s : State) (ph : Phase) (cfg : Config) : Prop where
  phase_eq : s.phase = ph
  config_eq : s.config = cfg
  cycles_eq : s.cycles = (ph.budget cfg : Int)

theorem runSteps_config {k : Nat} {s t : State} (h : runSteps k s = .next t) : t.config = s.config := by
  induction k generalizing s with
  | zero => exact congrArg State.config (Host.Outcome.next.inj h).symm
  | succ k ih =>
    obtain ⟨u, hu⟩ := everyStepHasANextState s
    rw [runSteps_succ hu] at h
    exact (ih h).trans (step_config hu)

namespace State.AtStartOf

variable {s : State} {ph : Phase} {cfg : Config}

theorem signal_within_phase (h : s.AtStartOf ph cfg) {k : Nat} (hpos : 1 ≤ k) (hlt : k < phaseSteps (ph.budget cfg)) :
    ∃ t, runSteps k s = .next t ∧ t.signal = .none := by
  obtain ⟨hwithin, -⟩ := aPhaseLastsHalfItsCyclesPlusOne s _ h.cycles_eq
  obtain ⟨t, hrun, hsignal, -⟩ := hwithin k hpos hlt
  exact ⟨t, hrun, hsignal⟩

/-- A phase run to its end: its signal is returned, at the start of the other phase. -/
theorem runSteps_phase (h : s.AtStartOf ph cfg) :
    ∃ t, runSteps (phaseSteps (ph.budget cfg)) s = .next t ∧ t.signal = ph.endSignal ∧ t.AtStartOf ph.other cfg := by
  obtain ⟨-, t, hrun, hphase, hsignal, hcycles⟩ := aPhaseLastsHalfItsCyclesPlusOne s _ h.cycles_eq
  have hconfig := (runSteps_config hrun).trans h.config_eq
  rw [h.phase_eq] at hphase hsignal hcycles
  rw [h.config_eq] at hcycles
  obtain ⟨hend, hbudget⟩ : t.signal = ph.endSignal ∧ t.cycles = (ph.other.budget cfg : Int) := by
    cases ph <;> exact ⟨hsignal, hcycles⟩
  exact ⟨t, hrun, hend, Phase.eq_other_of_ne hphase, hconfig, hbudget⟩

/-- A frame is the two phases one after the other. -/
theorem runSteps_frame (h : s.AtStartOf .activeDisplay cfg) :
    ∃ t, runSteps (frameSteps cfg) s = .next t ∧ t.signal = .interruptPreliminaryEnded ∧
      t.AtStartOf .activeDisplay cfg := by
  obtain ⟨u, hactive, -, hu⟩ := h.runSteps_phase
  obtain ⟨t, hprelim, hsignal, ht⟩ := hu.runSteps_phase
  exact ⟨t, (runSteps_add hactive _).trans hprelim, hsignal, ht⟩

/-- After any number of frames the machine is at the start of a frame. -/
theorem runSteps_frames (h : s.AtStartOf .activeDisplay cfg) (m : Nat) :
    ∃ t, runSteps (m * frameSteps cfg) s = .next t ∧ t.AtStartOf .activeDisplay cfg := by
  induction m with
  | zero => exact ⟨s, by rw [Nat.zero_mul, runSteps_zero], h⟩
  | succ m ih =>
    obtain ⟨u, hrun, hu⟩ := ih
    obtain ⟨t, hframe, -, ht⟩ := hu.runSteps_frame
    exact ⟨t, by rw [Nat.succ_mul, runSteps_add hrun, hframe], ht⟩

/-- The signals of one frame: step `k` is inside `ActiveDisplay`, ends it, is inside `InterruptPreliminary`, or ends
that. -/
theorem signal_in_frame (h : s.AtStartOf .activeDisplay cfg) {k : Nat} (hpos : 1 ≤ k) (hle : k ≤ frameSteps cfg) :
    ∃ t, runSteps k s = .next t ∧ t.signal =
      if k = phaseSteps cfg.budgetActive then .activeDisplayEnded
      else if k = frameSteps cfg then .interruptPreliminaryEnded
      else .none := by
  have hprelimPos : 0 < phaseSteps cfg.budgetPrelim := Nat.succ_pos _
  have hframe : frameSteps cfg = phaseSteps cfg.budgetActive + phaseSteps cfg.budgetPrelim := rfl
  obtain ⟨u, hactive, hended, hu⟩ := h.runSteps_phase
  rcases Nat.lt_trichotomy k (phaseSteps cfg.budgetActive) with hlt | rfl | hgt
  · rw [if_neg (by omega), if_neg (by omega)]
    exact h.signal_within_phase hpos hlt
  · rw [if_pos rfl]
    exact ⟨u, hactive, hended⟩
  · rw [if_neg (by omega)]
    split
    case isTrue hk =>
      obtain ⟨t, hrun, hsignal, -⟩ := h.runSteps_frame
      exact ⟨t, hk ▸ hrun, hsignal⟩
    case isFalse hk =>
      obtain ⟨l, rfl⟩ := Nat.exists_eq_add_of_lt hgt
      have hlt : l + 1 < phaseSteps cfg.budgetPrelim := by omega
      obtain ⟨t, hrun, hsignal⟩ := hu.signal_within_phase (Nat.succ_pos l) hlt
      exact ⟨t, (runSteps_add hactive (l + 1)).trans hrun, hsignal⟩

end State.AtStartOf

/-- Settles O42: `m` whole frames lead to the start of a frame, and the next `k` steps lie in that one. -/
theorem framesRepeatWithAFixedPeriod : Obligations.FramesRepeatWithAFixedPeriod := by
  intro s hp hc m k hpos hle
  have hstart : s.AtStartOf .activeDisplay s.config := ⟨hp, rfl, hc⟩
  obtain ⟨u, hrun, hu⟩ := hstart.runSteps_frames m
  obtain ⟨t, hlast, hsignal⟩ := hu.signal_in_frame hpos hle
  exact ⟨t, (runSteps_add hrun k).trans hlast, hsignal⟩

end Sys2Proof.Machine
